-- ==== Sys2Proof/Word.lean ====
section
/-! DEFINITION. The words of the engine: bytes, and the names of the two assembly orders of a bit field. -/

namespace Sys2Proof

/-- One byte of IMEM or OMEM (00_scope R5, `BYTE_W = 8`). -/
abbrev Byte := BitVec 8

/-- The two orders in which `ReadBits` assembles a field (00_scope R9). -/
inductive Order where
  | lsb
  | msb
  deriving DecidableEq, Repr

end Sys2Proof
end

