-- ==== Sys2Proof/Config.lean ====
section
/-! DEFINITION. What an implementation fixes (00_scope R5), and the free values: opaque functions without a body for what
the spec leaves to no value (93_implementation_defined X1, X6). -/

namespace Sys2Proof.Config

/-- Least and default width of the position counters and of the registers `IN_LEN`, `OUT_CAP`, `OUT_COUNT`, `IN_POS`
(00_scope R5). The width itself is the open parameter `AW`, an argument of the model that each engine's state carries as `aw`
(log 1). -/
abbrev AW_MIN : Nat := 17
abbrev AW_DEFAULT : Nat := 32

/-- Symbols of the code-length alphabet (00_scope R5). -/
abbrev N_CL : Nat := 19

/-- Capacity in symbols of the literal/length table (00_scope R5, 92 D8). -/
abbrev CAP_LL : Nat := 288

/-- Capacity in symbols of the distance table (00_scope R5, 92 D8). -/
abbrev CAP_D : Nat := 32

/-- Entries of `lens`: both alphabets as one array (10_state R40). -/
abbrev CAP_LENS : Nat := CAP_LL + CAP_D

/-- Longest code of the literal/length and distance alphabets (00_scope R5). -/
abbrev MAXBITS : Nat := 15

/-- Longest code of the code-length alphabet (00_scope R5). -/
abbrev MAXBITS_CL : Nat := 7

/-- Largest `count` of one BitReader read (00_scope R5). -/
abbrev MAX_READ : Nat := 16

/-- Node arena capacities of the literal/length, distance and code-length tries (00_scope R5, 92 D15). -/
abbrev ARENA_LL : Nat := 575
abbrev ARENA_D : Nat := 63
abbrev ARENA_CL : Nat := 37

/-- Literal/length symbols below this one, and distance symbols below the next, have a meaning (00_scope R5). -/
abbrev MEANINGFUL_LL : Nat := 286
abbrev MEANINGFUL_D : Nat := 30

/-- What a byte of IMEM or OMEM that nothing has written reads as.
DESIGN CHOICE, unsafe: 10_state R45 leaves both memories unspecified (log 2). -/
def unwritten : Byte := 0

/-- FREE VALUE: what a host read of `OUT_COUNT` or `IN_POS` returns while `STATUS = BUSY`, one for each draw
(10_state R35, R36; 93 X1; log 8), at each width. -/
opaque busyRead (aw : Nat) : Nat → BitVec aw

/-- FREE VALUE: a byte of OMEM after a reset that interrupted a run, one for each draw (10_state R45; 93 X6; log 9). -/
opaque resetByte : Nat → Byte

end Sys2Proof.Config

namespace Sys2Proof

/-- An address of IMEM or OMEM, or a length register, of an engine of width `aw` (20_memory R60, 00_scope R5). -/
abbrev Addr (aw : Nat) := BitVec aw

end Sys2Proof
end

