-- ==== Sys2Proof/Machine/Memory.lean ====
section
/-! DEFINITION. Byte memories (20_memory R60, R65): a list of (address, byte) pairs in one canonical form, addresses strictly
rising and no entry equal to what an unlisted address reads as. -/

namespace Sys2Proof.Machine

/-- A memory of bytes: IMEM or OMEM (10_state R20, R21). -/
abbrev Memory := List Host.Cell

/-- The canonical form: addresses strictly rising, no entry that an unlisted address reads as. -/
def Memory.wf : Memory → Bool
  | [] => true
  | [(_, b)] => b != Config.unwritten
  | (k, b) :: (k', b') :: t => decide (k < k') && b != Config.unwritten && Memory.wf ((k', b') :: t)

/-- `MemRead(M, a, 1)` without its domain check (00_scope R8). -/
def Memory.read : Memory → Nat → Byte
  | [], _ => Config.unwritten
  | (k, b) :: t, a => if k = a then b else Memory.read t a

/-- Put an entry in its place. -/
def Memory.insert : Memory → Nat → Byte → Memory
  | [], a, v => [(a, v)]
  | (k, b) :: t, a, v =>
    if a < k then (a, v) :: (k, b) :: t
    else if a = k then (a, v) :: t
    else (k, b) :: Memory.insert t a v

/-- Drop every entry of an address. -/
def Memory.erase : Memory → Nat → Memory
  | [], _ => []
  | (k, b) :: t, a => if k = a then Memory.erase t a else (k, b) :: Memory.erase t a

/-- `MemWrite(M, a, 1, v)` without its domain check (00_scope R8); it keeps the canonical form. -/
def Memory.write (m : Memory) (a : Nat) (v : Byte) : Memory :=
  if v = Config.unwritten then Memory.erase m a else Memory.insert m a v

/-- Write bytes at increasing addresses from `a`. -/
def Memory.writeBytes (m : Memory) (a : Nat) : List Byte → Memory
  | [] => m
  | b :: bs => Memory.writeBytes (Memory.write m a b) (a + 1) bs

/-- The `n` bytes from address `a`. -/
def Memory.readBytes (m : Memory) (a : Nat) : Nat → List Byte
  | 0 => []
  | n + 1 => Memory.read m a :: Memory.readBytes m (a + 1) n

end Sys2Proof.Machine
end

