-- ==== Sys2Proof/Syntax.lean ====
section
/-! DEFINITION. The stream elements as syntax: one constructor per row of spec/opcode_table.json (30_encoding R110), and the
names of the error kinds a decoder or an element may raise (60_exceptions R270). -/

namespace Sys2Proof

/-- The nine error kinds, in the order of their codes (60_exceptions R270). -/
inductive ErrKind where
  | invalidBlockType
  | overSubscribedHuffmanTable
  | incompleteHuffmanTable
  | unexpectedEndOfInput
  | backReferenceOutOfRange
  | outputBufferExhausted
  | malformedCodeLengthRun
  | storedLengthMismatch
  | reservedSymbol
  deriving DecidableEq, Repr

/-- One stream element. A field the stream carries is an operand, at the width the encoding gives it.
The payload of a stored block is no operand: it is data the element copies (42_block_decoder R186).
A `LEN_*` element is the length half of a match and a `DIST_*` element its distance half; both are executed in one step
(42_block_decoder R204; log 4). -/
inductive Instr where
  /-- Block headers, operand `BFINAL` (30_encoding R91). -/
  | blockStored (f : BitVec 1)
  | blockFixed (f : BitVec 1)
  | blockDynamic (f : BitVec 1)
  | blockReserved (f : BitVec 1)
  /-- Body of a stored block, operands `LEN` and `NLEN` (30_encoding R92). -/
  | storedBody (len : BitVec 16) (nlen : BitVec 16)
  /-- First part of a dynamic header, the raw fields and the code-length-alphabet lengths in stream order (30_encoding R93). -/
  | dynhdr (hlit : BitVec 5) (hdist : BitVec 5) (hclen : BitVec 4) (cll : List (BitVec 3))
  /-- Code-length symbols (30_encoding R94). -/
  | cl0
  | cl1
  | cl2
  | cl3
  | cl4
  | cl5
  | cl6
  | cl7
  | cl8
  | cl9
  | cl10
  | cl11
  | cl12
  | cl13
  | cl14
  | cl15
  /-- Code-length runs, operand the extra field (30_encoding R94). -/
  | clRepPrev (e : BitVec 2)
  | clRepZ3 (e : BitVec 3)
  | clRepZ11 (e : BitVec 7)
  /-- End of block (30_encoding R102). -/
  | eob
  /-- Match lengths, operand the extra field where there is one (30_encoding R95, R103). -/
  | len257
  | len258
  | len259
  | len260
  | len261
  | len262
  | len263
  | len264
  | len265 (e : BitVec 1)
  | len266 (e : BitVec 1)
  | len267 (e : BitVec 1)
  | len268 (e : BitVec 1)
  | len269 (e : BitVec 2)
  | len270 (e : BitVec 2)
  | len271 (e : BitVec 2)
  | len272 (e : BitVec 2)
  | len273 (e : BitVec 3)
  | len274 (e : BitVec 3)
  | len275 (e : BitVec 3)
  | len276 (e : BitVec 3)
  | len277 (e : BitVec 4)
  | len278 (e : BitVec 4)
  | len279 (e : BitVec 4)
  | len280 (e : BitVec 4)
  | len281 (e : BitVec 5)
  | len282 (e : BitVec 5)
  | len283 (e : BitVec 5)
  | len284 (e : BitVec 5)
  | len285
  /-- Reserved literal/length symbols (42_block_decoder R205). -/
  | llRsvd286
  | llRsvd287
  /-- Match distances, operand the extra field where there is one (30_encoding R96, R105). -/
  | dist0
  | dist1
  | dist2
  | dist3
  | dist4 (e : BitVec 1)
  | dist5 (e : BitVec 1)
  | dist6 (e : BitVec 2)
  | dist7 (e : BitVec 2)
  | dist8 (e : BitVec 3)
  | dist9 (e : BitVec 3)
  | dist10 (e : BitVec 4)
  | dist11 (e : BitVec 4)
  | dist12 (e : BitVec 5)
  | dist13 (e : BitVec 5)
  | dist14 (e : BitVec 6)
  | dist15 (e : BitVec 6)
  | dist16 (e : BitVec 7)
  | dist17 (e : BitVec 7)
  | dist18 (e : BitVec 8)
  | dist19 (e : BitVec 8)
  | dist20 (e : BitVec 9)
  | dist21 (e : BitVec 9)
  | dist22 (e : BitVec 10)
  | dist23 (e : BitVec 10)
  | dist24 (e : BitVec 11)
  | dist25 (e : BitVec 11)
  | dist26 (e : BitVec 12)
  | dist27 (e : BitVec 12)
  | dist28 (e : BitVec 13)
  | dist29 (e : BitVec 13)
  /-- Reserved distance symbols (42_block_decoder R207). -/
  | dRsvd30
  | dRsvd31
  /-- Literals (30_encoding R95, R102), last so that every constructor with an operand has a small tag. -/
  | lit00
  | lit01
  | lit02
  | lit03
  | lit04
  | lit05
  | lit06
  | lit07
  | lit08
  | lit09
  | lit0A
  | lit0B
  | lit0C
  | lit0D
  | lit0E
  | lit0F
  | lit10
  | lit11
  | lit12
  | lit13
  | lit14
  | lit15
  | lit16
  | lit17
  | lit18
  | lit19
  | lit1A
  | lit1B
  | lit1C
  | lit1D
  | lit1E
  | lit1F
  | lit20
  | lit21
  | lit22
  | lit23
  | lit24
  | lit25
  | lit26
  | lit27
  | lit28
  | lit29
  | lit2A
  | lit2B
  | lit2C
  | lit2D
  | lit2E
  | lit2F
  | lit30
  | lit31
  | lit32
  | lit33
  | lit34
  | lit35
  | lit36
  | lit37
  | lit38
  | lit39
  | lit3A
  | lit3B
  | lit3C
  | lit3D
  | lit3E
  | lit3F
  | lit40
  | lit41
  | lit42
  | lit43
  | lit44
  | lit45
  | lit46
  | lit47
  | lit48
  | lit49
  | lit4A
  | lit4B
  | lit4C
  | lit4D
  | lit4E
  | lit4F
  | lit50
  | lit51
  | lit52
  | lit53
  | lit54
  | lit55
  | lit56
  | lit57
  | lit58
  | lit59
  | lit5A
  | lit5B
  | lit5C
  | lit5D
  | lit5E
  | lit5F
  | lit60
  | lit61
  | lit62
  | lit63
  | lit64
  | lit65
  | lit66
  | lit67
  | lit68
  | lit69
  | lit6A
  | lit6B
  | lit6C
  | lit6D
  | lit6E
  | lit6F
  | lit70
  | lit71
  | lit72
  | lit73
  | lit74
  | lit75
  | lit76
  | lit77
  | lit78
  | lit79
  | lit7A
  | lit7B
  | lit7C
  | lit7D
  | lit7E
  | lit7F
  | lit80
  | lit81
  | lit82
  | lit83
  | lit84
  | lit85
  | lit86
  | lit87
  | lit88
  | lit89
  | lit8A
  | lit8B
  | lit8C
  | lit8D
  | lit8E
  | lit8F
  | lit90
  | lit91
  | lit92
  | lit93
  | lit94
  | lit95
  | lit96
  | lit97
  | lit98
  | lit99
  | lit9A
  | lit9B
  | lit9C
  | lit9D
  | lit9E
  | lit9F
  | litA0
  | litA1
  | litA2
  | litA3
  | litA4
  | litA5
  | litA6
  | litA7
  | litA8
  | litA9
  | litAA
  | litAB
  | litAC
  | litAD
  | litAE
  | litAF
  | litB0
  | litB1
  | litB2
  | litB3
  | litB4
  | litB5
  | litB6
  | litB7
  | litB8
  | litB9
  | litBA
  | litBB
  | litBC
  | litBD
  | litBE
  | litBF
  | litC0
  | litC1
  | litC2
  | litC3
  | litC4
  | litC5
  | litC6
  | litC7
  | litC8
  | litC9
  | litCA
  | litCB
  | litCC
  | litCD
  | litCE
  | litCF
  | litD0
  | litD1
  | litD2
  | litD3
  | litD4
  | litD5
  | litD6
  | litD7
  | litD8
  | litD9
  | litDA
  | litDB
  | litDC
  | litDD
  | litDE
  | litDF
  | litE0
  | litE1
  | litE2
  | litE3
  | litE4
  | litE5
  | litE6
  | litE7
  | litE8
  | litE9
  | litEA
  | litEB
  | litEC
  | litED
  | litEE
  | litEF
  | litF0
  | litF1
  | litF2
  | litF3
  | litF4
  | litF5
  | litF6
  | litF7
  | litF8
  | litF9
  | litFA
  | litFB
  | litFC
  | litFD
  | litFE
  | litFF
  deriving DecidableEq, Repr

end Sys2Proof
end

