-- ==== Sys2Proof/Machine/BitReader.lean ====
section
/-! DEFINITION. The BitReader (40_bitreader R130 to R136): reading bit fields from a source of bits. The operations are
written once over any source, so that the same decoder reads IMEM through the bit cursor and reads a plain list of bits. -/

namespace Sys2Proof.Machine

/-- What reading from a source gives: a value and the source after it, or an error kind and the source as it stood when the
error was raised (40_bitreader R135: the bits consumed before the fault stay consumed). -/
inductive Rd (σ α : Type) where
  | ok (a : α) (s : σ)
  | err (e : ErrKind) (s : σ)
  deriving DecidableEq, Repr

/-- Continue after a successful read. -/
def Rd.bind {σ α β : Type} (r : Rd σ α) (f : α → σ → Rd σ β) : Rd σ β :=
  match r with
  | .ok a s => f a s
  | .err e s => .err e s

/-- Registers that a header element writes while it is still being read, so that a fault in a later field finds them written
(42_block_decoder R182, R194; 60_exceptions R275; log 6). -/
inductive Latch where
  | bfinal (v : BitVec 1)
  | nLl (v : BitVec 9)
  | nD (v : BitVec 6)
  | nCl (v : BitVec 5)
  | clearClLen
  | clLen (i : Nat) (v : BitVec 3)
  deriving DecidableEq, Repr

/-- A source of bits: the next bit, the move to the next byte boundary, and where a latched field goes. -/
structure Source (σ : Type) where
  next : σ → Option (Bool × σ)
  align : σ → σ
  latch : Latch → σ → σ

/-- The bit cursor of an engine of width `aw` (10_state R22): next byte to load, residual bits right-aligned, how many of them are valid. -/
structure Cursor (aw : Nat) where
  inPos : Addr aw
  bitbuf : BitVec 8
  bitcnt : BitVec 3
  deriving DecidableEq, Repr

/-- One iteration of the loop of `ReadBits`: refill when no residual bit remains, take bit 0, shift
(40_bitreader R130, 20_memory R61). `none` when a bit is needed and none is left. The transient count 8 is not seen. -/
def Cursor.next {aw : Nat} (imem : Memory) (inLen : Addr aw) (c : Cursor aw) : Option (Bool × Cursor aw) :=
  if c.bitcnt = 0 then
    if inLen.toNat ≤ c.inPos.toNat then none
    else
      let byte := Memory.read imem c.inPos.toNat
      some (byte.getLsbD 0, { inPos := c.inPos + 1, bitbuf := byte >>> 1, bitcnt := 7 })
  else some (c.bitbuf.getLsbD 0, { c with bitbuf := c.bitbuf >>> 1, bitcnt := c.bitcnt - 1 })

/-- `AlignToByte()` (40_bitreader R134). -/
def Cursor.align {aw : Nat} (c : Cursor aw) : Cursor aw := { c with bitbuf := 0, bitcnt := 0 }

/-- The index of the next unread stream bit (10_state R22). -/
def Cursor.bitIndex {aw : Nat} (c : Cursor aw) : Nat := 8 * c.inPos.toNat - c.bitcnt.toNat

/-- Stream bit `k`: bit `k mod 8` of byte `k div 8` of IMEM (20_memory R61). -/
def streamBit (imem : Memory) (k : Nat) : Bool := (Memory.read imem (k / 8)).getLsbD (k % 8)

/-- A list of bits as a source, first bit first. Its residual bits are those before the last whole bytes. -/
def listSource : Source (List Bool) where
  next
    | [] => none
    | b :: t => some (b, t)
  align l := l.drop (l.length % 8)
  latch _ l := l

/-- `count` bits, the first one consumed in bit 0 of the value (00_scope R9). -/
def readLsb {σ : Type} (src : Source σ) : Nat → σ → Rd σ Nat
  | 0, s => .ok 0 s
  | n + 1, s =>
    match src.next s with
    | none => .err .unexpectedEndOfInput s
    | some (b, s₁) =>
      match readLsb src n s₁ with
      | .ok v s₂ => .ok (b.toNat + 2 * v) s₂
      | .err e s₂ => .err e s₂

/-- `count` bits, the first one consumed in the most significant bit of the value (00_scope R9). -/
def readMsb {σ : Type} (src : Source σ) : Nat → σ → Rd σ Nat
  | 0, s => .ok 0 s
  | n + 1, s =>
    match src.next s with
    | none => .err .unexpectedEndOfInput s
    | some (b, s₁) =>
      match readMsb src n s₁ with
      | .ok v s₂ => .ok (b.toNat * 2 ^ n + v) s₂
      | .err e s₂ => .err e s₂

/-- `ReadBits(count, order)` (40_bitreader R130). The engine calls it with counts 0 to 16 only (R133; log 19). -/
def readBits {σ : Type} (src : Source σ) (count : Nat) (order : Order) (s : σ) : Rd σ Nat :=
  match order with
  | .lsb => readLsb src count s
  | .msb => readMsb src count s

end Sys2Proof.Machine
end

