-- ==== Sys2Proof/Machine/Huffman.lean ====
section
/-! DEFINITION. The HuffmanTableBuilder at the architectural level (41_huffman_table_builder R150 to R155) and the symbol
decoder on the codes alone (R160, R161). A table is its list of code lengths, symbol 0 first; 0 marks an unused symbol. -/

namespace Sys2Proof.Machine

/-- Add one at an index of a list of counters. -/
def bumpAt : List Nat → Nat → List Nat
  | [], _ => []
  | c :: cs, 0 => (c + 1) :: cs
  | c :: cs, n + 1 => c :: bumpAt cs n

/-- The loop of the histogram: unused symbols are not counted (41 R151). -/
def countLengths : List Nat → List Nat → List Nat
  | [], count => count
  | l :: ls, count => countLengths ls (if l = 0 then count else bumpAt count l)

/-- Symbols of each length `0 .. maxbits`; the count of length 0 stays 0 (41 R151). -/
def histogram (L : List Nat) (maxbits : Nat) : List Nat :=
  countLengths L (List.replicate (maxbits + 1) 0)

/-- The loop of the over-subscription check over the counts of lengths 1, 2, …: codes left free, doubled at each length
(41 R152). -/
def kraftFails : List Nat → Nat → Bool
  | [], _ => false
  | c :: cs, left => if 2 * left < c then true else kraftFails cs (2 * left - c)

/-- The table asks for more codes of some length than remain (41 R152). -/
def overSubscribed (L : List Nat) (maxbits : Nat) : Bool :=
  kraftFails ((histogram L maxbits).drop 1) 1

/-- The recurrence of the start codes over the counts of lengths 0, 1, … (41 R153). -/
def startsFrom (start : Nat) : List Nat → List Nat
  | [] => []
  | c :: cs => start :: startsFrom ((start + c) * 2) cs

/-- The smallest code of each length `0 .. maxbits` (41 R153). -/
def startCodes (L : List Nat) (maxbits : Nat) : List Nat :=
  startsFrom 0 (histogram L maxbits)

/-- A symbol with its code word: `len` bits, the most significant first in the stream. -/
structure Code where
  sym : Nat
  len : Nat
  code : Nat
  deriving DecidableEq, Repr

/-- Code assignment in increasing symbol index, each length with its running counter (41 R154). -/
def assignCodes : List Nat → Nat → List Nat → List Code
  | [], _, _ => []
  | l :: ls, i, next =>
    if l = 0 then assignCodes ls (i + 1) next
    else ⟨i, l, next.getD l 0⟩ :: assignCodes ls (i + 1) (bumpAt next l)

/-- The canonical codes of a length table (41 R154, 10_state R41). -/
def codes (L : List Nat) (maxbits : Nat) : List Code :=
  assignCodes L 0 (startCodes L maxbits)

/-- The bits read so far, `l` of them with value `v`, are a prefix of this code word (41 R160). -/
def Code.hasPrefix (c : Code) (l v : Nat) : Bool :=
  Nat.ble 1 c.len && Nat.ble l c.len && Nat.beq (c.code >>> (c.len - l)) v

/-- The bits read so far are this whole code word (41 R160). -/
def Code.isWord (c : Code) (l v : Nat) : Bool :=
  Nat.beq c.len l && Nat.ble 1 l && Nat.beq c.code v

/-- The loop of `Decode` (41 R160): a dead end raises `IncompleteHuffmanTable` (R161), a whole code word gives its symbol,
and otherwise one more bit is read. It carries the codes the bits read so far are a prefix of: only they can be so one bit
later. The first argument bounds the iterations and is never used up: past the longest code nothing is a prefix. -/
def decodeLoop {σ : Type} (src : Source σ) : Nat → List Code → Nat → Nat → σ → Rd σ Nat
  | 0, _, _, _, s => .err .incompleteHuffmanTable s
  | n + 1, cs, v, l, s =>
    let live := cs.filter fun c => c.hasPrefix l v
    if live.isEmpty then .err .incompleteHuffmanTable s
    else
      match live.find? fun c => c.isWord l v with
      | some c => .ok c.sym s
      | none =>
        match readBits src 1 .msb s with
        | .ok b s₁ => decodeLoop src n live (v * 2 + b) (l + 1) s₁
        | .err e s₁ => .err e s₁

/-- `Decode(T)`, architectural definition, for a table with the length list `L` (41 R160). -/
def decodeSymbol {σ : Type} (src : Source σ) (L : List Nat) (maxbits : Nat) (s : σ) : Rd σ Nat :=
  decodeLoop src (maxbits + 2) (codes L maxbits) 0 0 s

/-- The bits of a code word in stream order (41 R154). -/
def Code.bits (c : Code) : List Bool :=
  (List.range c.len).map fun j => c.code.testBit (c.len - 1 - j)

end Sys2Proof.Machine
end

