-- ==== Sys2Proof/Machine/Trie.lean ====
section
/-! DEFINITION. The decode trie at the structural level (41_huffman_table_builder R156 to R160): the node arena, insertion by
splitting a compressed edge, `Build`, and the traversal. It is hidden state (10_state R42, log 7). -/

namespace Sys2Proof.Machine

/-- A node with its compressed edge: `skip` bits that must match `pre` on arriving at it (41 R156). -/
inductive TrieNode where
  | leaf (skip : BitVec 4) (pre : BitVec 15) (sym : BitVec 9)
  | internal (skip : BitVec 4) (pre : BitVec 15) (child0 child1 : BitVec 10)
  deriving DecidableEq, Repr

/-- A trie: its root handle and the allocated nodes, node 0 first; `used` is their number (41 R156, log 7). -/
structure Trie where
  root : Option (BitVec 10)
  nodes : List TrieNode
  deriving DecidableEq, Repr

/-- `root = NONE`, `used = 0` (41 R156). -/
def Trie.empty : Trie := { root := none, nodes := [] }

/-- The allocation count (41 R156). -/
def Trie.used (t : Trie) : Nat := t.nodes.length

def TrieNode.skip : TrieNode → Nat
  | .leaf k _ _ => k.toNat
  | .internal k _ _ _ => k.toNat

def TrieNode.pre : TrieNode → Nat
  | .leaf _ p _ => p.toNat
  | .internal _ p _ _ => p.toNat

/-- The `j`-th expected bit of a node's edge, most significant first (41 R157, `pre(nd, j)`). -/
def TrieNode.preBit (nd : TrieNode) (j : Nat) : Bool := nd.pre.testBit (nd.skip - 1 - j)

/-- The node with another edge (41 R157: the old content, one level deeper). -/
def TrieNode.withEdge (nd : TrieNode) (skip pre : Nat) : TrieNode :=
  match nd with
  | .leaf _ _ s => .leaf (BitVec.ofNat 4 skip) (BitVec.ofNat 15 pre) s
  | .internal _ _ a b => .internal (BitVec.ofNat 4 skip) (BitVec.ofNat 15 pre) a b

/-- The `j`-th bit of a code word of `len` bits, most significant first (41 R157, `key(j)`). -/
def keyBit (c len j : Nat) : Bool := c.testBit (len - 1 - j)

/-- How many bits of the node's edge agree with the key from position `pos`; the first argument is the bits still to
compare (41 R157). -/
def edgeMatch (nd : TrieNode) (c len pos : Nat) : Nat → Nat → Nat
  | 0, m => m
  | k + 1, m => if nd.preBit m = keyBit c len (pos + m) then edgeMatch nd c len pos k (m + 1) else m

/-- A leaf with `skip` expected bits, the low `skip` bits of a code word (41 R157). -/
def leafOf (skip c s : Nat) : TrieNode :=
  .leaf (BitVec.ofNat 4 skip) (BitVec.ofNat 15 (c % 2 ^ skip)) (BitVec.ofNat 9 s)

/-- The split of node `h` after `m` matching bits of its edge (41 R157). -/
def splitNode (nodes : List TrieNode) (h : Nat) (nd : TrieNode) (c len s pos m : Nat) : List TrieNode :=
  let rest := nd.skip - m - 1
  let lrest := len - (pos + m + 1)
  let hm := BitVec.ofNat 10 nodes.length
  let hl := BitVec.ofNat 10 (nodes.length + 1)
  let old := nd.withEdge rest (nd.pre % 2 ^ rest)
  let edge := BitVec.ofNat 15 (nd.pre >>> (nd.skip - m))
  let parent : TrieNode :=
    if nd.preBit m then .internal (BitVec.ofNat 4 m) edge hl hm else .internal (BitVec.ofNat 4 m) edge hm hl
  (nodes ++ [old, leafOf lrest c s]).set h parent

/-- The walk of `Insert` from node `h` with `pos` key bits consumed; the first argument bounds the nodes visited, of which
each but the first takes a key bit (41 R157). The two cases R157 excludes by prefix-freeness leave the nodes as they are
(log 17). -/
def insertFrom (c len s : Nat) : Nat → List TrieNode → Nat → Nat → List TrieNode
  | 0, nodes, _, _ => nodes
  | n + 1, nodes, h, pos =>
    match nodes[h]? with
    | none => nodes
    | some nd =>
      let m := edgeMatch nd c len pos nd.skip 0
      if m < nd.skip then splitNode nodes h nd c len s pos m
      else
        match nd with
        | .leaf _ _ _ => nodes
        | .internal _ _ a b =>
          let p := pos + nd.skip
          insertFrom c len s n nodes (if keyBit c len p then b.toNat else a.toNat) (p + 1)

/-- `Insert(arena, c, len, s)` (41 R157). -/
def Trie.insert (t : Trie) (k : Code) : Trie :=
  match t.root with
  | none => { root := some 0, nodes := [leafOf k.len k.code k.sym] }
  | some h => { t with nodes := insertFrom k.code k.len k.sym (k.len + 1) t.nodes h.toNat 0 }

/-- `Build(L, n, maxbits, arena)`: nothing when the table is over-subscribed, otherwise the trie of its codes
(41 R150, R157, R158). -/
def buildTrie (L : List Nat) (maxbits : Nat) : Option Trie :=
  if overSubscribed L maxbits then none
  else some ((codes L maxbits).foldl Trie.insert Trie.empty)

/-- Read the expected bits of a node's edge; the first argument is the bits still to read (41 R160, structural). -/
def followEdge {σ : Type} (src : Source σ) (nd : TrieNode) : Nat → Nat → σ → Rd σ Unit
  | 0, _, s => .ok () s
  | k + 1, j, s =>
    match readBits src 1 .msb s with
    | .err e s₁ => .err e s₁
    | .ok b s₁ =>
      if b = (nd.preBit j).toNat then followEdge src nd k (j + 1) s₁ else .err .incompleteHuffmanTable s₁

/-- The traversal from node `h`; the first argument bounds the nodes visited (41 R160, structural). -/
def traverse {σ : Type} (src : Source σ) (nodes : List TrieNode) : Nat → Nat → σ → Rd σ Nat
  | 0, _, s => .err .incompleteHuffmanTable s
  | n + 1, h, s =>
    match nodes[h]? with
    | none => .err .incompleteHuffmanTable s
    | some nd =>
      match followEdge src nd nd.skip 0 s with
      | .err e s₁ => .err e s₁
      | .ok _ s₁ =>
        match nd with
        | .leaf _ _ sym => .ok sym.toNat s₁
        | .internal _ _ a b =>
          match readBits src 1 .msb s₁ with
          | .err e s₂ => .err e s₂
          | .ok v s₂ => traverse src nodes n (if v = 0 then a.toNat else b.toNat) s₂

/-- `Decode(T)`, structural definition (41 R160). -/
def Trie.decode {σ : Type} (src : Source σ) (t : Trie) (s : σ) : Rd σ Nat :=
  match t.root with
  | none => .err .incompleteHuffmanTable s
  | some h => traverse src t.nodes (Config.MAXBITS + 1) h.toNat s

end Sys2Proof.Machine
end

