-- ==== Sys2Proof/Machine/State.lean ====
section
/-! DEFINITION. The state of the engine as plain data (10_state R20 to R46), the reasons a step or a host operation can stop,
and the state after reset. -/

namespace Sys2Proof.Machine

/-- The state register of the BlockDecoder, in the order of its values 0..9 (10_state R24). -/
inductive Fsm where
  | idle
  | header
  | stored
  | fixed
  | dynHeader
  | dynLengths
  | dynBuild
  | symbol
  | done
  | error
  deriving DecidableEq, Repr

/-- Accesses outside the domain the spec defines them on (00_scope R8, 43 R227). Stopping is SAFE: the rules guard every
access, and the safety statements say that no step reaches one (log 15). -/
inductive Fault where
  /-- Raised by the stored-block copy for an IMEM address that is not below `IN_LEN` (safe). -/
  | imemReadOutside
  /-- Raised by the match copy for an OMEM address that is not below `out_pos` (safe). -/
  | omemReadOutside
  /-- Raised by every write to OMEM when `out_pos` is not below `OUT_CAP` (safe). -/
  | omemWriteOutside
  /-- Raised by the code-length elements for an index beyond the entries of `lens` (safe). -/
  | lensWriteOutside
  deriving DecidableEq, Repr

/-- Launches and host accesses to which the spec says a model gives no meaning (93 X2, X3, X4), and the instruction without a
meaning. Refusing is SAFE: nothing is claimed of what follows. -/
inductive Refusal where
  /-- An instruction without a meaning, by its mnemonic. Raised by no arm of `exec` any more (safe). -/
  | notModelled (mnemonic : String)
  /-- Raised by START when `IN_LEN` or `OUT_CAP` was never written since reset (93 X2, safe). -/
  | startBeforeLengths
  /-- Raised by START when `IN_LEN` exceeds the bytes of IMEM the host has written (93 X4, safe). -/
  | inputBeyondImem
  /-- Raised by START when `OUT_CAP` exceeds the size of OMEM (93 X4, safe). -/
  | outputBeyondOmem
  /-- Raised by a host access to IMEM or OMEM while `STATUS = BUSY` (93 X3, safe). -/
  | memoryTouchedWhileBusy
  /-- Raised by a host access to an address IMEM or OMEM does not have (safe). -/
  | outsideMemory
  deriving DecidableEq, Repr

/-- The MODEL's own record of what the host has set up, for the launches it must refuse (93 X2, X4; 70 R321; log 10). -/
structure Platform where
  inLenWritten : Bool
  outCapWritten : Bool
  imemSize : Nat
  omemSize : Nat
  deriving DecidableEq, Repr

/-- The state of the engine. Host registers that are functions of others have no field (10_state R32, R33, R35, R36). -/
structure State where
  /-- The parameter `AW` of this engine (00_scope R5). No step and no host operation changes it (log 1). -/
  aw : Nat
  /-- Input and output memory (10_state R20, R21). -/
  imem : Memory
  omem : Memory
  /-- The bit cursor `in_pos`, `bitbuf`, `bitcnt` (10_state R22). -/
  cur : Cursor aw
  /-- `out_pos` (10_state R23). -/
  outPos : Addr aw
  /-- `fsm` (10_state R24). -/
  fsm : Fsm
  /-- The most recent header (10_state R25). -/
  bfinal : BitVec 1
  btype : BitVec 2
  /-- Table sizes of the current block (10_state R26). -/
  nLl : BitVec 9
  nD : BitVec 6
  nCl : BitVec 5
  /-- The run decoder (10_state R27). -/
  idx : BitVec 9
  total : BitVec 9
  /-- `IN_LEN` and `OUT_CAP` (10_state R31). -/
  inLen : Addr aw
  outCap : Addr aw
  /-- `err` (10_state R34): none is code 0. -/
  err : Option ErrKind
  /-- `cl_len` (10_state R38) and `lens` (R40). -/
  clLen : Vector (BitVec 3) Config.N_CL
  lens : Vector (BitVec 4) Config.CAP_LENS
  /-- The decode tries, hidden state (10_state R42). -/
  clTrie : Trie
  llTrie : Trie
  dTrie : Trie
  /-- MODEL's own: the length of the match being executed, 0 when there is none (10_state R44, log 4). -/
  matchLen : BitVec 9
  /-- MODEL's own: how many free values have been drawn (93 X1, X6; log 8). -/
  draws : Nat
  /-- MODEL's own: what the host has set up (log 10). -/
  platform : Platform
  deriving DecidableEq, Repr

/-- The cursor at stream bit 0 (10_state R45, R46). -/
def Cursor.zero {aw : Nat} : Cursor aw := { inPos := 0, bitbuf := 0, bitcnt := 0 }

/-- The state after reset of an engine of width `aw` (10_state R45). The spec leaves `n_ll`, `n_d`, `n_cl`, `idx`, `total`, `IN_LEN`, `OUT_CAP`,
`cl_len`, `lens`, the tries and both memories unspecified. DESIGN CHOICE, unsafe: they are zero or empty here (log 2, log 3). -/
def State.resetAt (aw : Nat) : State where
  aw := aw
  imem := []
  omem := []
  cur := Cursor.zero
  outPos := 0
  fsm := .idle
  bfinal := 0
  btype := 0
  nLl := 0
  nD := 0
  nCl := 0
  idx := 0
  total := 0
  inLen := 0
  outCap := 0
  err := none
  clLen := Vector.replicate Config.N_CL 0
  lens := Vector.replicate Config.CAP_LENS 0
  clTrie := Trie.empty
  llTrie := Trie.empty
  dTrie := Trie.empty
  matchLen := 0
  draws := 0
  platform := { inLenWritten := false, outCapWritten := false, imemSize := 0, omemSize := 0 }

/-- The state after reset of the engine at the default width (00_scope R5). -/
def State.reset : State := State.resetAt Config.AW_DEFAULT

end Sys2Proof.Machine
end

