-- ==== Sys2Proof/Machine/Flags.lean ====
section
/-! DEFINITION. The two flags and what is computed from them and from `fsm`: error codes, `STATUS`, the status lines, the end of
a block (10_state R24, R25, R29, R33, R34, R37; 42_block_decoder R187, R203; 60_exceptions R270). -/

namespace Sys2Proof.Machine

/-- The code of an error kind (60_exceptions R270). -/
def errCode : ErrKind → BitVec 4
  | .invalidBlockType => 1
  | .overSubscribedHuffmanTable => 2
  | .incompleteHuffmanTable => 3
  | .unexpectedEndOfInput => 4
  | .backReferenceOutOfRange => 5
  | .outputBufferExhausted => 6
  | .malformedCodeLengthRun => 7
  | .storedLengthMismatch => 8
  | .reservedSymbol => 9

/-- The value of register `ERR` (10_state R34). -/
def errValue (e : Option ErrKind) : BitVec 4 :=
  match e with
  | none => 0
  | some k => errCode k

/-- The value of `fsm` (10_state R24). -/
def fsmCode : Fsm → BitVec 4
  | .idle => 0
  | .header => 1
  | .stored => 2
  | .fixed => 3
  | .dynHeader => 4
  | .dynLengths => 5
  | .dynBuild => 6
  | .symbol => 7
  | .done => 8
  | .error => 9

/-- The value of register `STATUS` (10_state R33). -/
def statusOf : Fsm → BitVec 2
  | .idle => 0
  | .header => 1
  | .stored => 1
  | .fixed => 1
  | .dynHeader => 1
  | .dynLengths => 1
  | .dynBuild => 1
  | .symbol => 1
  | .done => 2
  | .error => 3

/-- The status lines (10_state R37). -/
def State.busy (s : State) : Bool := statusOf s.fsm == 1

def State.done (s : State) : Bool := statusOf s.fsm == 2

def State.error (s : State) : Bool := statusOf s.fsm == 3

/-- Where a block's end leads (42_block_decoder R187, R203). -/
def afterBlock (bfinal : BitVec 1) : Fsm := if bfinal = 1 then .done else .header

end Sys2Proof.Machine
end

