-- ==== Sys2Proof/Machine/Operands.lean ====
section
/-! DEFINITION. The constant tables (10_state R43) and the assembly of every operand from its field (30_encoding R97 to R106).
The values of the tables are the spec's; it marks them as general knowledge, not from its source (93 G1 to G3; log 18). -/

namespace Sys2Proof.Machine

/-- `CL_ORDER` (30_encoding R97). -/
def clOrder : List Nat := [16, 17, 18, 0, 8, 7, 9, 6, 10, 5, 11, 4, 12, 3, 13, 2, 14, 1, 15]

/-- `LEN_BASE` and `LEN_EXTRA`, indexed by the symbol less 257 (30_encoding R103). -/
def lenBase : List Nat :=
  [3, 4, 5, 6, 7, 8, 9, 10, 11, 13, 15, 17, 19, 23, 27, 31, 35, 43, 51, 59, 67, 83, 99, 115, 131, 163, 195, 227, 258]

def lenExtra : List Nat :=
  [0, 0, 0, 0, 0, 0, 0, 0, 1, 1, 1, 1, 2, 2, 2, 2, 3, 3, 3, 3, 4, 4, 4, 4, 5, 5, 5, 5, 0]

/-- `DST_BASE` and `DST_EXTRA`, indexed by the distance symbol (30_encoding R105). -/
def dstBase : List Nat :=
  [1, 2, 3, 4, 5, 7, 9, 13, 17, 25, 33, 49, 65, 97, 129, 193, 257, 385, 513, 769, 1025, 1537, 2049, 3073, 4097, 6145,
   8193, 12289, 16385, 24577]

def dstExtra : List Nat :=
  [0, 0, 0, 0, 1, 1, 2, 2, 3, 3, 4, 4, 5, 5, 6, 6, 7, 7, 8, 8, 9, 9, 10, 10, 11, 11, 12, 12, 13, 13]

/-- `FIXED_LL` and `FIXED_D`, the code lengths of a fixed block (30_encoding R100). -/
def fixedLl : List Nat :=
  List.replicate 144 8 ++ (List.replicate 112 9 ++ (List.replicate 24 7 ++ List.replicate 8 8))

def fixedD : List Nat := List.replicate 32 5

/-- Extra bits after a code-length symbol (30_encoding R94). -/
def clExtraBits (c : Nat) : Nat :=
  if c = 16 then 2 else if c = 17 then 3 else if c = 18 then 7 else 0

/-- Extra bits after a literal/length symbol (30_encoding R95). -/
def llExtraBits (s : Nat) : Nat :=
  if 257 ≤ s then lenExtra.getD (s - 257) 0 else 0

/-- Extra bits after a distance symbol (30_encoding R96). -/
def distExtraBits (d : Nat) : Nat := dstExtra.getD d 0

/-- Match length of a symbol 257..285 with its extra field (30_encoding R104). -/
def matchLength (s e : Nat) : Nat := lenBase.getD (s - 257) 0 + e

/-- Match distance of a symbol 0..29 with its extra field (30_encoding R106). -/
def matchDistance (d e : Nat) : Nat := dstBase.getD d 0 + e

/-- Table sizes of a dynamic header from its raw fields (30_encoding R93, R99). -/
def litLenCount (hlit : BitVec 5) : BitVec 9 := BitVec.ofNat 9 (hlit.toNat + 257)

def distCount (hdist : BitVec 5) : BitVec 6 := BitVec.ofNat 6 (hdist.toNat + 1)

def codeLenCount (hclen : BitVec 4) : BitVec 5 := BitVec.ofNat 5 (hclen.toNat + 4)

/-- Repeat counts of the symbols 16, 17 and 18 (30_encoding R94). -/
def repeatPrevCount (e : BitVec 2) : Nat := 3 + e.toNat

def repeatZero3Count (e : BitVec 3) : Nat := 3 + e.toNat

def repeatZero11Count (e : BitVec 7) : Nat := 11 + e.toNat

/-- What the `NLEN` field of a stored block must hold (42_block_decoder R185). -/
def complementOf (len : BitVec 16) : BitVec 16 := len ^^^ 0xFFFF#16

end Sys2Proof.Machine
end

