-- ==== Sys2Proof/Machine/Ops.lean ====
section
/-! DEFINITION. The named operations over registers, tables and memories that the elements share: taking a fault, the checked
memory accesses, the two copies, building a trie, filling `lens`. -/

namespace Sys2Proof.Machine

/-- What a step or a meaning answers. -/
abbrev Result := Host.Outcome State Fault Refusal

/-- Continue with the next state. -/
def andThen (r : Result) (f : State → Result) : Result :=
  match r with
  | .next s => f s
  | .fault e => .fault e
  | .refused e => .refused e

/-- `raise E` (60_exceptions R275): `err` and `fsm` are written, nothing else of the spec's state. The length of a match in
progress is transient and does not survive the step (10_state R44, log 4). -/
def State.raise (s : State) (e : ErrKind) : State := { s with err := some e, fsm := .error, matchLen := 0 }

/-- A meaning ends in a fault of the run: a next state. -/
def raised (e : ErrKind) (s : State) : Result := .next (s.raise e)

/-- The bit cursor of a state as a source of bits (40_bitreader R130, R134; log 6). -/
def State.latch (l : Latch) (s : State) : State :=
  match l with
  | .bfinal v => { s with bfinal := v }
  | .nLl v => { s with nLl := v }
  | .nD v => { s with nD := v }
  | .nCl v => { s with nCl := v }
  | .clearClLen => { s with clLen := Vector.replicate Config.N_CL 0 }
  | .clLen i v => { s with clLen := s.clLen.setIfInBounds i v }

def stateSource : Source State where
  next s := (s.cur.next s.imem s.inLen).map fun r => (r.1, { s with cur := r.2 })
  align s := { s with cur := s.cur.align }
  latch l s := s.latch l

/-- `MemWrite(OMEM, out_pos, 1, b)` and the move of `out_pos`, defined only below `OUT_CAP` (00_scope R8, 10_state R21). -/
def appendByte (b : Byte) (s : State) : Result :=
  if s.outPos.toNat < s.outCap.toNat then
    .next { s with omem := Memory.write s.omem s.outPos.toNat b, outPos := s.outPos + 1 }
  else .fault .omemWriteOutside

/-- `StoredCopy(n)` (42_block_decoder R186): IMEM is read only below `IN_LEN` (00_scope R8). -/
def storedCopy : Nat → State → Result
  | 0, s => .next s
  | n + 1, s =>
    if s.cur.inPos.toNat < s.inLen.toNat then
      andThen (appendByte (Memory.read s.imem s.cur.inPos.toNat) s) fun t =>
        storedCopy n { t with cur := { t.cur with inPos := t.cur.inPos + 1 } }
    else .fault .imemReadOutside

/-- `Copy(n, distance)` (44_match_copier R241), one byte at a time in increasing order: OMEM is read only at addresses
`0 .. out_pos - 1` (00_scope R8). -/
def matchBytes (distance : Nat) : Nat → State → Result
  | 0, s => .next s
  | n + 1, s =>
    if distance ≤ s.outPos.toNat ∧ 0 < distance then
      andThen (appendByte (Memory.read s.omem (s.outPos.toNat - distance)) s) (matchBytes distance n)
    else .fault .omemReadOutside

/-- `MatchCopy(length, distance)` with its two checks before the first byte (44_match_copier R240), then `k`. -/
def matchCopy (length distance : Nat) (s : State) (k : State → Result) : Result :=
  if s.outPos.toNat < distance then raised .backReferenceOutOfRange s
  else if s.outCap.toNat - s.outPos.toNat < length then raised .outputBufferExhausted s
  else andThen (matchBytes distance length s) k

/-- The length tables as the builder and `Decode` see them (10_state R38, R40). -/
def State.clLengths (s : State) : List Nat := s.clLen.toList.map BitVec.toNat

def State.llLengths (s : State) : List Nat := (s.lens.toList.take s.nLl.toNat).map BitVec.toNat

def State.dLengths (s : State) : List Nat := ((s.lens.toList.drop s.nLl.toNat).take s.nD.toNat).map BitVec.toNat

/-- `Build` (41_huffman_table_builder R150): raise before anything is written, or go on with the trie. -/
def build (L : List Nat) (maxbits : Nat) (s : State) (k : Trie → Result) : Result :=
  match buildTrie L maxbits with
  | none => raised .overSubscribedHuffmanTable s
  | some t => k t

/-- `lens[i] <- v`, `lens[i + 1] <- v`, … for `n` entries inside the table (43 R221, R227). -/
def fillVector : Nat → Nat → BitVec 4 → Vector (BitVec 4) Config.CAP_LENS → Vector (BitVec 4) Config.CAP_LENS
  | 0, _, _, a => a
  | n + 1, i, v, a => fillVector n (i + 1) v (a.setIfInBounds i v)

/-- Write `n` entries of `lens` from `idx`, move `idx`, and choose the next state (43 R221). -/
def storeLengths (n : Nat) (v : BitVec 4) (s : State) : Result :=
  if s.idx.toNat + n ≤ Config.CAP_LENS then
    let idx := s.idx + BitVec.ofNat 9 n
    .next { s with lens := fillVector n s.idx.toNat v s.lens, idx := idx,
                   fsm := if idx = s.total then .dynBuild else .dynLengths }
  else .fault .lensWriteOutside

/-- A run of `rep` entries of value `v`, checked against the entries left (43 R221, R226). -/
def storeRun (rep : Nat) (v : BitVec 4) (s : State) : Result :=
  if s.total.toNat - s.idx.toNat < rep then raised .malformedCodeLengthRun s
  else storeLengths rep v s

/-- The entry before `idx` (10_state R27). -/
def State.prevLength (s : State) : BitVec 4 := s.lens.toList.getD (s.idx.toNat - 1) 0

/-- The code-length-alphabet table of a dynamic header: all zero, then the lengths read, in `CL_ORDER` (42 R194, 10_state R38). -/
def placeClLens : List Nat → List (BitVec 3) → Vector (BitVec 3) Config.N_CL → Vector (BitVec 3) Config.N_CL
  | c :: cs, v :: vs, a => placeClLens cs vs (a.setIfInBounds c v)
  | _, _, a => a

def clLenOf (cll : List (BitVec 3)) : Vector (BitVec 3) Config.N_CL :=
  placeClLens clOrder cll (Vector.replicate Config.N_CL 0)

/-- The fixed code lengths as the contents of `lens` (42_block_decoder R191). -/
def fixedLens : Vector (BitVec 4) Config.CAP_LENS :=
  ⟨((fixedLl ++ fixedD).map (BitVec.ofNat 4)).toArray, by
    simp only [List.size_toArray, List.length_map, List.length_append, fixedLl, fixedD, List.length_replicate]⟩

end Sys2Proof.Machine
end

