-- ==== Sys2Proof/Machine/BlockHeaders.lean ====
section
/-! DEFINITION. The block headers (42_block_decoder R182, R183), the body of a stored block (R185 to R188), the dynamic header
(R194), and the two table set-up steps, which execute no element (R191, R197). -/

namespace Sys2Proof.Machine

/-- What every header writes (42_block_decoder R182). -/
def latchHeader (f : BitVec 1) (t : BitVec 2) (s : State) : State := { s with bfinal := f, btype := t }

/-- BLOCK_STORED (42_block_decoder R182). -/
def execBlockStored (f : BitVec 1) (s : State) : Result := .next { latchHeader f 0 s with fsm := .stored }

/-- BLOCK_FIXED (42_block_decoder R182). -/
def execBlockFixed (f : BitVec 1) (s : State) : Result := .next { latchHeader f 1 s with fsm := .fixed }

/-- BLOCK_DYNAMIC (42_block_decoder R182). -/
def execBlockDynamic (f : BitVec 1) (s : State) : Result := .next { latchHeader f 2 s with fsm := .dynHeader }

/-- BLOCK_RESERVED (42_block_decoder R183): `bfinal` and `btype` are written, then the fault. -/
def execBlockReserved (f : BitVec 1) (s : State) : Result := raised .invalidBlockType (latchHeader f 3 s)

/-- End of a block (42_block_decoder R187, R203). -/
def endBlock (s : State) : Result := .next { s with fsm := afterBlock s.bfinal }

/-- STORED_BODY (42_block_decoder R185): three checks in this order, then the copy. The cursor stands after `NLEN`. -/
def execStoredBody (len nlen : BitVec 16) (s : State) : Result :=
  if nlen ≠ complementOf len then raised .storedLengthMismatch s
  else if s.inLen.toNat - s.cur.inPos.toNat < len.toNat then raised .unexpectedEndOfInput s
  else if s.outCap.toNat - s.outPos.toNat < len.toNat then raised .outputBufferExhausted s
  else andThen (storedCopy len.toNat s) endBlock

/-- The registers a dynamic header writes from its fields (42_block_decoder R194). -/
def latchDynHeader (hlit hdist : BitVec 5) (hclen : BitVec 4) (cll : List (BitVec 3)) (s : State) : State :=
  { s with nLl := litLenCount hlit, nD := distCount hdist, nCl := codeLenCount hclen, clLen := clLenOf cll }

/-- DYNHDR (42_block_decoder R194): the registers, then `Build` of the code-length table. -/
def execDynhdr (hlit hdist : BitVec 5) (hclen : BitVec 4) (cll : List (BitVec 3)) (s : State) : Result :=
  let t := latchDynHeader hlit hdist hclen cll s
  build t.clLengths Config.MAXBITS_CL t fun trie =>
    .next { t with clTrie := trie, idx := 0, total := BitVec.ofNat 9 (t.nLl.toNat + t.nD.toNat), fsm := .dynLengths }

/-- `Build` of the literal/length trie, then of the distance trie, then `S_SYMBOL` (42_block_decoder R191, R197). -/
def buildBoth (s : State) : Result :=
  build s.llLengths Config.MAXBITS s fun ll =>
    let t := { s with llTrie := ll }
    build t.dLengths Config.MAXBITS t fun d => .next { t with dTrie := d, fsm := .symbol }

/-- Step `S_FIXED` (42_block_decoder R191). -/
def fixedSetup (s : State) : Result :=
  buildBoth { s with nLl := 288, nD := 32, lens := fixedLens }

/-- Step `S_DYN_BUILD` (42_block_decoder R197). -/
def dynBuild (s : State) : Result := buildBoth s

end Sys2Proof.Machine
end

