-- ==== Sys2Proof/Machine/CodeLengths.lean ====
section
/-! DEFINITION. The code-length symbols: step `S_DYN_LENGTHS` of the CodeLengthRunDecoder (43_code_length_run_decoder R220 to
R227). One definition per symbol, each over the shared operations. -/

namespace Sys2Proof.Machine

/-- CL symbols 0..15: store the length, advance one entry (43 R222). -/
def codeLength (c : BitVec 4) (s : State) : Result := storeLengths 1 c s

/-- CL symbol 16 (43 R223, R226): a fault with no entry before it; otherwise repeat the entry before `idx`. -/
def execClRepPrev (e : BitVec 2) (s : State) : Result :=
  if s.idx = 0 then raised .malformedCodeLengthRun s else storeRun (repeatPrevCount e) s.prevLength s

/-- CL symbol 17 (43 R224, R226). -/
def execClRepZ3 (e : BitVec 3) (s : State) : Result := storeRun (repeatZero3Count e) 0 s

/-- CL symbol 18 (43 R225, R226). -/
def execClRepZ11 (e : BitVec 7) (s : State) : Result := storeRun (repeatZero11Count e) 0 s

def execCl0 (s : State) : Result := codeLength 0 s
def execCl1 (s : State) : Result := codeLength 1 s
def execCl2 (s : State) : Result := codeLength 2 s
def execCl3 (s : State) : Result := codeLength 3 s
def execCl4 (s : State) : Result := codeLength 4 s
def execCl5 (s : State) : Result := codeLength 5 s
def execCl6 (s : State) : Result := codeLength 6 s
def execCl7 (s : State) : Result := codeLength 7 s
def execCl8 (s : State) : Result := codeLength 8 s
def execCl9 (s : State) : Result := codeLength 9 s
def execCl10 (s : State) : Result := codeLength 10 s
def execCl11 (s : State) : Result := codeLength 11 s
def execCl12 (s : State) : Result := codeLength 12 s
def execCl13 (s : State) : Result := codeLength 13 s
def execCl14 (s : State) : Result := codeLength 14 s
def execCl15 (s : State) : Result := codeLength 15 s

end Sys2Proof.Machine
end

