-- ==== Sys2Proof/Machine/Distances.lean ====
section
/-! DEFINITION. The distance half of a match and the reserved distance symbols (42_block_decoder R204, R207; 44_match_copier
R240, R241). One definition per symbol, each over the shared operation. -/

namespace Sys2Proof.Machine

/-- The distance half of `Match(s)` (42_block_decoder R204, 30_encoding R106): `MatchCopy` with the length held by the length
half, then `S_SYMBOL`. -/
def distanceHalf (d e : Nat) (s : State) : Result :=
  matchCopy s.matchLen.toNat (matchDistance d e) s fun t => .next { t with matchLen := 0, fsm := .symbol }

/-- D symbol 30 (42_block_decoder R207). -/
def execDRsvd30 (s : State) : Result := raised .reservedSymbol s

/-- D symbol 31 (42_block_decoder R207). -/
def execDRsvd31 (s : State) : Result := raised .reservedSymbol s

def execDist0 (s : State) : Result := distanceHalf 0 0 s
def execDist1 (s : State) : Result := distanceHalf 1 0 s
def execDist2 (s : State) : Result := distanceHalf 2 0 s
def execDist3 (s : State) : Result := distanceHalf 3 0 s
def execDist4 (e : BitVec 1) (s : State) : Result := distanceHalf 4 e.toNat s
def execDist5 (e : BitVec 1) (s : State) : Result := distanceHalf 5 e.toNat s
def execDist6 (e : BitVec 2) (s : State) : Result := distanceHalf 6 e.toNat s
def execDist7 (e : BitVec 2) (s : State) : Result := distanceHalf 7 e.toNat s
def execDist8 (e : BitVec 3) (s : State) : Result := distanceHalf 8 e.toNat s
def execDist9 (e : BitVec 3) (s : State) : Result := distanceHalf 9 e.toNat s
def execDist10 (e : BitVec 4) (s : State) : Result := distanceHalf 10 e.toNat s
def execDist11 (e : BitVec 4) (s : State) : Result := distanceHalf 11 e.toNat s
def execDist12 (e : BitVec 5) (s : State) : Result := distanceHalf 12 e.toNat s
def execDist13 (e : BitVec 5) (s : State) : Result := distanceHalf 13 e.toNat s
def execDist14 (e : BitVec 6) (s : State) : Result := distanceHalf 14 e.toNat s
def execDist15 (e : BitVec 6) (s : State) : Result := distanceHalf 15 e.toNat s
def execDist16 (e : BitVec 7) (s : State) : Result := distanceHalf 16 e.toNat s
def execDist17 (e : BitVec 7) (s : State) : Result := distanceHalf 17 e.toNat s
def execDist18 (e : BitVec 8) (s : State) : Result := distanceHalf 18 e.toNat s
def execDist19 (e : BitVec 8) (s : State) : Result := distanceHalf 19 e.toNat s
def execDist20 (e : BitVec 9) (s : State) : Result := distanceHalf 20 e.toNat s
def execDist21 (e : BitVec 9) (s : State) : Result := distanceHalf 21 e.toNat s
def execDist22 (e : BitVec 10) (s : State) : Result := distanceHalf 22 e.toNat s
def execDist23 (e : BitVec 10) (s : State) : Result := distanceHalf 23 e.toNat s
def execDist24 (e : BitVec 11) (s : State) : Result := distanceHalf 24 e.toNat s
def execDist25 (e : BitVec 11) (s : State) : Result := distanceHalf 25 e.toNat s
def execDist26 (e : BitVec 12) (s : State) : Result := distanceHalf 26 e.toNat s
def execDist27 (e : BitVec 12) (s : State) : Result := distanceHalf 27 e.toNat s
def execDist28 (e : BitVec 13) (s : State) : Result := distanceHalf 28 e.toNat s
def execDist29 (e : BitVec 13) (s : State) : Result := distanceHalf 29 e.toNat s

end Sys2Proof.Machine
end

