-- ==== Sys2Proof/Machine/Lengths.lean ====
section
/-! DEFINITION. End of block, the length half of a match, and the reserved literal/length symbols (42_block_decoder R203, R204,
R205). One definition per symbol, each over the shared operation. -/

namespace Sys2Proof.Machine

/-- EOB (42_block_decoder R203). -/
def execEob (s : State) : Result := endBlock s

/-- The length half of `Match(s)` (42_block_decoder R204, 30_encoding R104): the match length is held for the distance half,
which the same step executes (log 4). -/
def lengthHalf (sym e : Nat) (s : State) : Result := .next { s with matchLen := BitVec.ofNat 9 (matchLength sym e) }

/-- LL symbol 286 (42_block_decoder R205). -/
def execLlRsvd286 (s : State) : Result := raised .reservedSymbol s

/-- LL symbol 287 (42_block_decoder R205). -/
def execLlRsvd287 (s : State) : Result := raised .reservedSymbol s

def execLen257 (s : State) : Result := lengthHalf 257 0 s
def execLen258 (s : State) : Result := lengthHalf 258 0 s
def execLen259 (s : State) : Result := lengthHalf 259 0 s
def execLen260 (s : State) : Result := lengthHalf 260 0 s
def execLen261 (s : State) : Result := lengthHalf 261 0 s
def execLen262 (s : State) : Result := lengthHalf 262 0 s
def execLen263 (s : State) : Result := lengthHalf 263 0 s
def execLen264 (s : State) : Result := lengthHalf 264 0 s
def execLen265 (e : BitVec 1) (s : State) : Result := lengthHalf 265 e.toNat s
def execLen266 (e : BitVec 1) (s : State) : Result := lengthHalf 266 e.toNat s
def execLen267 (e : BitVec 1) (s : State) : Result := lengthHalf 267 e.toNat s
def execLen268 (e : BitVec 1) (s : State) : Result := lengthHalf 268 e.toNat s
def execLen269 (e : BitVec 2) (s : State) : Result := lengthHalf 269 e.toNat s
def execLen270 (e : BitVec 2) (s : State) : Result := lengthHalf 270 e.toNat s
def execLen271 (e : BitVec 2) (s : State) : Result := lengthHalf 271 e.toNat s
def execLen272 (e : BitVec 2) (s : State) : Result := lengthHalf 272 e.toNat s
def execLen273 (e : BitVec 3) (s : State) : Result := lengthHalf 273 e.toNat s
def execLen274 (e : BitVec 3) (s : State) : Result := lengthHalf 274 e.toNat s
def execLen275 (e : BitVec 3) (s : State) : Result := lengthHalf 275 e.toNat s
def execLen276 (e : BitVec 3) (s : State) : Result := lengthHalf 276 e.toNat s
def execLen277 (e : BitVec 4) (s : State) : Result := lengthHalf 277 e.toNat s
def execLen278 (e : BitVec 4) (s : State) : Result := lengthHalf 278 e.toNat s
def execLen279 (e : BitVec 4) (s : State) : Result := lengthHalf 279 e.toNat s
def execLen280 (e : BitVec 4) (s : State) : Result := lengthHalf 280 e.toNat s
def execLen281 (e : BitVec 5) (s : State) : Result := lengthHalf 281 e.toNat s
def execLen282 (e : BitVec 5) (s : State) : Result := lengthHalf 282 e.toNat s
def execLen283 (e : BitVec 5) (s : State) : Result := lengthHalf 283 e.toNat s
def execLen284 (e : BitVec 5) (s : State) : Result := lengthHalf 284 e.toNat s
def execLen285 (s : State) : Result := lengthHalf 285 0 s

end Sys2Proof.Machine
end

