-- ==== Sys2Proof/Machine/Literals.lean ====
section
/-! DEFINITION. The 256 literals (42_block_decoder R202). One definition per symbol, each the shared operation at its byte. -/

namespace Sys2Proof.Machine

/-- `Literal(s)` (42_block_decoder R202): the capacity check, the byte, `S_SYMBOL`. -/
def literal (b : Byte) (s : State) : Result :=
  if s.outCap.toNat ≤ s.outPos.toNat then raised .outputBufferExhausted s
  else andThen (appendByte b s) fun t => .next { t with fsm := .symbol }

def execLit00 (s : State) : Result := literal 0x00 s
def execLit01 (s : State) : Result := literal 0x01 s
def execLit02 (s : State) : Result := literal 0x02 s
def execLit03 (s : State) : Result := literal 0x03 s
def execLit04 (s : State) : Result := literal 0x04 s
def execLit05 (s : State) : Result := literal 0x05 s
def execLit06 (s : State) : Result := literal 0x06 s
def execLit07 (s : State) : Result := literal 0x07 s
def execLit08 (s : State) : Result := literal 0x08 s
def execLit09 (s : State) : Result := literal 0x09 s
def execLit0A (s : State) : Result := literal 0x0a s
def execLit0B (s : State) : Result := literal 0x0b s
def execLit0C (s : State) : Result := literal 0x0c s
def execLit0D (s : State) : Result := literal 0x0d s
def execLit0E (s : State) : Result := literal 0x0e s
def execLit0F (s : State) : Result := literal 0x0f s
def execLit10 (s : State) : Result := literal 0x10 s
def execLit11 (s : State) : Result := literal 0x11 s
def execLit12 (s : State) : Result := literal 0x12 s
def execLit13 (s : State) : Result := literal 0x13 s
def execLit14 (s : State) : Result := literal 0x14 s
def execLit15 (s : State) : Result := literal 0x15 s
def execLit16 (s : State) : Result := literal 0x16 s
def execLit17 (s : State) : Result := literal 0x17 s
def execLit18 (s : State) : Result := literal 0x18 s
def execLit19 (s : State) : Result := literal 0x19 s
def execLit1A (s : State) : Result := literal 0x1a s
def execLit1B (s : State) : Result := literal 0x1b s
def execLit1C (s : State) : Result := literal 0x1c s
def execLit1D (s : State) : Result := literal 0x1d s
def execLit1E (s : State) : Result := literal 0x1e s
def execLit1F (s : State) : Result := literal 0x1f s
def execLit20 (s : State) : Result := literal 0x20 s
def execLit21 (s : State) : Result := literal 0x21 s
def execLit22 (s : State) : Result := literal 0x22 s
def execLit23 (s : State) : Result := literal 0x23 s
def execLit24 (s : State) : Result := literal 0x24 s
def execLit25 (s : State) : Result := literal 0x25 s
def execLit26 (s : State) : Result := literal 0x26 s
def execLit27 (s : State) : Result := literal 0x27 s
def execLit28 (s : State) : Result := literal 0x28 s
def execLit29 (s : State) : Result := literal 0x29 s
def execLit2A (s : State) : Result := literal 0x2a s
def execLit2B (s : State) : Result := literal 0x2b s
def execLit2C (s : State) : Result := literal 0x2c s
def execLit2D (s : State) : Result := literal 0x2d s
def execLit2E (s : State) : Result := literal 0x2e s
def execLit2F (s : State) : Result := literal 0x2f s
def execLit30 (s : State) : Result := literal 0x30 s
def execLit31 (s : State) : Result := literal 0x31 s
def execLit32 (s : State) : Result := literal 0x32 s
def execLit33 (s : State) : Result := literal 0x33 s
def execLit34 (s : State) : Result := literal 0x34 s
def execLit35 (s : State) : Result := literal 0x35 s
def execLit36 (s : State) : Result := literal 0x36 s
def execLit37 (s : State) : Result := literal 0x37 s
def execLit38 (s : State) : Result := literal 0x38 s
def execLit39 (s : State) : Result := literal 0x39 s
def execLit3A (s : State) : Result := literal 0x3a s
def execLit3B (s : State) : Result := literal 0x3b s
def execLit3C (s : State) : Result := literal 0x3c s
def execLit3D (s : State) : Result := literal 0x3d s
def execLit3E (s : State) : Result := literal 0x3e s
def execLit3F (s : State) : Result := literal 0x3f s
def execLit40 (s : State) : Result := literal 0x40 s
def execLit41 (s : State) : Result := literal 0x41 s
def execLit42 (s : State) : Result := literal 0x42 s
def execLit43 (s : State) : Result := literal 0x43 s
def execLit44 (s : State) : Result := literal 0x44 s
def execLit45 (s : State) : Result := literal 0x45 s
def execLit46 (s : State) : Result := literal 0x46 s
def execLit47 (s : State) : Result := literal 0x47 s
def execLit48 (s : State) : Result := literal 0x48 s
def execLit49 (s : State) : Result := literal 0x49 s
def execLit4A (s : State) : Result := literal 0x4a s
def execLit4B (s : State) : Result := literal 0x4b s
def execLit4C (s : State) : Result := literal 0x4c s
def execLit4D (s : State) : Result := literal 0x4d s
def execLit4E (s : State) : Result := literal 0x4e s
def execLit4F (s : State) : Result := literal 0x4f s
def execLit50 (s : State) : Result := literal 0x50 s
def execLit51 (s : State) : Result := literal 0x51 s
def execLit52 (s : State) : Result := literal 0x52 s
def execLit53 (s : State) : Result := literal 0x53 s
def execLit54 (s : State) : Result := literal 0x54 s
def execLit55 (s : State) : Result := literal 0x55 s
def execLit56 (s : State) : Result := literal 0x56 s
def execLit57 (s : State) : Result := literal 0x57 s
def execLit58 (s : State) : Result := literal 0x58 s
def execLit59 (s : State) : Result := literal 0x59 s
def execLit5A (s : State) : Result := literal 0x5a s
def execLit5B (s : State) : Result := literal 0x5b s
def execLit5C (s : State) : Result := literal 0x5c s
def execLit5D (s : State) : Result := literal 0x5d s
def execLit5E (s : State) : Result := literal 0x5e s
def execLit5F (s : State) : Result := literal 0x5f s
def execLit60 (s : State) : Result := literal 0x60 s
def execLit61 (s : State) : Result := literal 0x61 s
def execLit62 (s : State) : Result := literal 0x62 s
def execLit63 (s : State) : Result := literal 0x63 s
def execLit64 (s : State) : Result := literal 0x64 s
def execLit65 (s : State) : Result := literal 0x65 s
def execLit66 (s : State) : Result := literal 0x66 s
def execLit67 (s : State) : Result := literal 0x67 s
def execLit68 (s : State) : Result := literal 0x68 s
def execLit69 (s : State) : Result := literal 0x69 s
def execLit6A (s : State) : Result := literal 0x6a s
def execLit6B (s : State) : Result := literal 0x6b s
def execLit6C (s : State) : Result := literal 0x6c s
def execLit6D (s : State) : Result := literal 0x6d s
def execLit6E (s : State) : Result := literal 0x6e s
def execLit6F (s : State) : Result := literal 0x6f s
def execLit70 (s : State) : Result := literal 0x70 s
def execLit71 (s : State) : Result := literal 0x71 s
def execLit72 (s : State) : Result := literal 0x72 s
def execLit73 (s : State) : Result := literal 0x73 s
def execLit74 (s : State) : Result := literal 0x74 s
def execLit75 (s : State) : Result := literal 0x75 s
def execLit76 (s : State) : Result := literal 0x76 s
def execLit77 (s : State) : Result := literal 0x77 s
def execLit78 (s : State) : Result := literal 0x78 s
def execLit79 (s : State) : Result := literal 0x79 s
def execLit7A (s : State) : Result := literal 0x7a s
def execLit7B (s : State) : Result := literal 0x7b s
def execLit7C (s : State) : Result := literal 0x7c s
def execLit7D (s : State) : Result := literal 0x7d s
def execLit7E (s : State) : Result := literal 0x7e s
def execLit7F (s : State) : Result := literal 0x7f s
def execLit80 (s : State) : Result := literal 0x80 s
def execLit81 (s : State) : Result := literal 0x81 s
def execLit82 (s : State) : Result := literal 0x82 s
def execLit83 (s : State) : Result := literal 0x83 s
def execLit84 (s : State) : Result := literal 0x84 s
def execLit85 (s : State) : Result := literal 0x85 s
def execLit86 (s : State) : Result := literal 0x86 s
def execLit87 (s : State) : Result := literal 0x87 s
def execLit88 (s : State) : Result := literal 0x88 s
def execLit89 (s : State) : Result := literal 0x89 s
def execLit8A (s : State) : Result := literal 0x8a s
def execLit8B (s : State) : Result := literal 0x8b s
def execLit8C (s : State) : Result := literal 0x8c s
def execLit8D (s : State) : Result := literal 0x8d s
def execLit8E (s : State) : Result := literal 0x8e s
def execLit8F (s : State) : Result := literal 0x8f s
def execLit90 (s : State) : Result := literal 0x90 s
def execLit91 (s : State) : Result := literal 0x91 s
def execLit92 (s : State) : Result := literal 0x92 s
def execLit93 (s : State) : Result := literal 0x93 s
def execLit94 (s : State) : Result := literal 0x94 s
def execLit95 (s : State) : Result := literal 0x95 s
def execLit96 (s : State) : Result := literal 0x96 s
def execLit97 (s : State) : Result := literal 0x97 s
def execLit98 (s : State) : Result := literal 0x98 s
def execLit99 (s : State) : Result := literal 0x99 s
def execLit9A (s : State) : Result := literal 0x9a s
def execLit9B (s : State) : Result := literal 0x9b s
def execLit9C (s : State) : Result := literal 0x9c s
def execLit9D (s : State) : Result := literal 0x9d s
def execLit9E (s : State) : Result := literal 0x9e s
def execLit9F (s : State) : Result := literal 0x9f s
def execLitA0 (s : State) : Result := literal 0xa0 s
def execLitA1 (s : State) : Result := literal 0xa1 s
def execLitA2 (s : State) : Result := literal 0xa2 s
def execLitA3 (s : State) : Result := literal 0xa3 s
def execLitA4 (s : State) : Result := literal 0xa4 s
def execLitA5 (s : State) : Result := literal 0xa5 s
def execLitA6 (s : State) : Result := literal 0xa6 s
def execLitA7 (s : State) : Result := literal 0xa7 s
def execLitA8 (s : State) : Result := literal 0xa8 s
def execLitA9 (s : State) : Result := literal 0xa9 s
def execLitAA (s : State) : Result := literal 0xaa s
def execLitAB (s : State) : Result := literal 0xab s
def execLitAC (s : State) : Result := literal 0xac s
def execLitAD (s : State) : Result := literal 0xad s
def execLitAE (s : State) : Result := literal 0xae s
def execLitAF (s : State) : Result := literal 0xaf s
def execLitB0 (s : State) : Result := literal 0xb0 s
def execLitB1 (s : State) : Result := literal 0xb1 s
def execLitB2 (s : State) : Result := literal 0xb2 s
def execLitB3 (s : State) : Result := literal 0xb3 s
def execLitB4 (s : State) : Result := literal 0xb4 s
def execLitB5 (s : State) : Result := literal 0xb5 s
def execLitB6 (s : State) : Result := literal 0xb6 s
def execLitB7 (s : State) : Result := literal 0xb7 s
def execLitB8 (s : State) : Result := literal 0xb8 s
def execLitB9 (s : State) : Result := literal 0xb9 s
def execLitBA (s : State) : Result := literal 0xba s
def execLitBB (s : State) : Result := literal 0xbb s
def execLitBC (s : State) : Result := literal 0xbc s
def execLitBD (s : State) : Result := literal 0xbd s
def execLitBE (s : State) : Result := literal 0xbe s
def execLitBF (s : State) : Result := literal 0xbf s
def execLitC0 (s : State) : Result := literal 0xc0 s
def execLitC1 (s : State) : Result := literal 0xc1 s
def execLitC2 (s : State) : Result := literal 0xc2 s
def execLitC3 (s : State) : Result := literal 0xc3 s
def execLitC4 (s : State) : Result := literal 0xc4 s
def execLitC5 (s : State) : Result := literal 0xc5 s
def execLitC6 (s : State) : Result := literal 0xc6 s
def execLitC7 (s : State) : Result := literal 0xc7 s
def execLitC8 (s : State) : Result := literal 0xc8 s
def execLitC9 (s : State) : Result := literal 0xc9 s
def execLitCA (s : State) : Result := literal 0xca s
def execLitCB (s : State) : Result := literal 0xcb s
def execLitCC (s : State) : Result := literal 0xcc s
def execLitCD (s : State) : Result := literal 0xcd s
def execLitCE (s : State) : Result := literal 0xce s
def execLitCF (s : State) : Result := literal 0xcf s
def execLitD0 (s : State) : Result := literal 0xd0 s
def execLitD1 (s : State) : Result := literal 0xd1 s
def execLitD2 (s : State) : Result := literal 0xd2 s
def execLitD3 (s : State) : Result := literal 0xd3 s
def execLitD4 (s : State) : Result := literal 0xd4 s
def execLitD5 (s : State) : Result := literal 0xd5 s
def execLitD6 (s : State) : Result := literal 0xd6 s
def execLitD7 (s : State) : Result := literal 0xd7 s
def execLitD8 (s : State) : Result := literal 0xd8 s
def execLitD9 (s : State) : Result := literal 0xd9 s
def execLitDA (s : State) : Result := literal 0xda s
def execLitDB (s : State) : Result := literal 0xdb s
def execLitDC (s : State) : Result := literal 0xdc s
def execLitDD (s : State) : Result := literal 0xdd s
def execLitDE (s : State) : Result := literal 0xde s
def execLitDF (s : State) : Result := literal 0xdf s
def execLitE0 (s : State) : Result := literal 0xe0 s
def execLitE1 (s : State) : Result := literal 0xe1 s
def execLitE2 (s : State) : Result := literal 0xe2 s
def execLitE3 (s : State) : Result := literal 0xe3 s
def execLitE4 (s : State) : Result := literal 0xe4 s
def execLitE5 (s : State) : Result := literal 0xe5 s
def execLitE6 (s : State) : Result := literal 0xe6 s
def execLitE7 (s : State) : Result := literal 0xe7 s
def execLitE8 (s : State) : Result := literal 0xe8 s
def execLitE9 (s : State) : Result := literal 0xe9 s
def execLitEA (s : State) : Result := literal 0xea s
def execLitEB (s : State) : Result := literal 0xeb s
def execLitEC (s : State) : Result := literal 0xec s
def execLitED (s : State) : Result := literal 0xed s
def execLitEE (s : State) : Result := literal 0xee s
def execLitEF (s : State) : Result := literal 0xef s
def execLitF0 (s : State) : Result := literal 0xf0 s
def execLitF1 (s : State) : Result := literal 0xf1 s
def execLitF2 (s : State) : Result := literal 0xf2 s
def execLitF3 (s : State) : Result := literal 0xf3 s
def execLitF4 (s : State) : Result := literal 0xf4 s
def execLitF5 (s : State) : Result := literal 0xf5 s
def execLitF6 (s : State) : Result := literal 0xf6 s
def execLitF7 (s : State) : Result := literal 0xf7 s
def execLitF8 (s : State) : Result := literal 0xf8 s
def execLitF9 (s : State) : Result := literal 0xf9 s
def execLitFA (s : State) : Result := literal 0xfa s
def execLitFB (s : State) : Result := literal 0xfb s
def execLitFC (s : State) : Result := literal 0xfc s
def execLitFD (s : State) : Result := literal 0xfd s
def execLitFE (s : State) : Result := literal 0xfe s
def execLitFF (s : State) : Result := literal 0xff s

end Sys2Proof.Machine
end

