-- ==== Sys2Proof/Machine/Alphabet.lean ====
section
/-! DEFINITION. Which symbol of which alphabet an element is (30_encoding R102, R110): the view of an element that the decoder
builds from and the encoder takes apart. The machine does not use it. -/

namespace Sys2Proof

/-- An element as its format and its fields: block type and `BFINAL`, or a symbol number and its extra field. -/
inductive Head where
  | header (t : BitVec 2) (f : BitVec 1)
  | stored (len nlen : BitVec 16)
  | dyn (hlit hdist : BitVec 5) (hclen : BitVec 4) (cll : List (BitVec 3))
  | cl (sym extra : Nat)
  | ll (sym extra : Nat)
  | dist (sym extra : Nat)
  deriving DecidableEq, Repr

/-- The fields of an element (opcode_table.json). -/
def Instr.head : Instr → Head
  | .blockStored f => .header 0 f
  | .blockFixed f => .header 1 f
  | .blockDynamic f => .header 2 f
  | .blockReserved f => .header 3 f
  | .storedBody len nlen => .stored len nlen
  | .dynhdr hlit hdist hclen cll => .dyn hlit hdist hclen cll
  | .cl0 => .cl 0 0
  | .cl1 => .cl 1 0
  | .cl2 => .cl 2 0
  | .cl3 => .cl 3 0
  | .cl4 => .cl 4 0
  | .cl5 => .cl 5 0
  | .cl6 => .cl 6 0
  | .cl7 => .cl 7 0
  | .cl8 => .cl 8 0
  | .cl9 => .cl 9 0
  | .cl10 => .cl 10 0
  | .cl11 => .cl 11 0
  | .cl12 => .cl 12 0
  | .cl13 => .cl 13 0
  | .cl14 => .cl 14 0
  | .cl15 => .cl 15 0
  | .clRepPrev e => .cl 16 e.toNat
  | .clRepZ3 e => .cl 17 e.toNat
  | .clRepZ11 e => .cl 18 e.toNat
  | .lit00 => .ll 0 0
  | .lit01 => .ll 1 0
  | .lit02 => .ll 2 0
  | .lit03 => .ll 3 0
  | .lit04 => .ll 4 0
  | .lit05 => .ll 5 0
  | .lit06 => .ll 6 0
  | .lit07 => .ll 7 0
  | .lit08 => .ll 8 0
  | .lit09 => .ll 9 0
  | .lit0A => .ll 10 0
  | .lit0B => .ll 11 0
  | .lit0C => .ll 12 0
  | .lit0D => .ll 13 0
  | .lit0E => .ll 14 0
  | .lit0F => .ll 15 0
  | .lit10 => .ll 16 0
  | .lit11 => .ll 17 0
  | .lit12 => .ll 18 0
  | .lit13 => .ll 19 0
  | .lit14 => .ll 20 0
  | .lit15 => .ll 21 0
  | .lit16 => .ll 22 0
  | .lit17 => .ll 23 0
  | .lit18 => .ll 24 0
  | .lit19 => .ll 25 0
  | .lit1A => .ll 26 0
  | .lit1B => .ll 27 0
  | .lit1C => .ll 28 0
  | .lit1D => .ll 29 0
  | .lit1E => .ll 30 0
  | .lit1F => .ll 31 0
  | .lit20 => .ll 32 0
  | .lit21 => .ll 33 0
  | .lit22 => .ll 34 0
  | .lit23 => .ll 35 0
  | .lit24 => .ll 36 0
  | .lit25 => .ll 37 0
  | .lit26 => .ll 38 0
  | .lit27 => .ll 39 0
  | .lit28 => .ll 40 0
  | .lit29 => .ll 41 0
  | .lit2A => .ll 42 0
  | .lit2B => .ll 43 0
  | .lit2C => .ll 44 0
  | .lit2D => .ll 45 0
  | .lit2E => .ll 46 0
  | .lit2F => .ll 47 0
  | .lit30 => .ll 48 0
  | .lit31 => .ll 49 0
  | .lit32 => .ll 50 0
  | .lit33 => .ll 51 0
  | .lit34 => .ll 52 0
  | .lit35 => .ll 53 0
  | .lit36 => .ll 54 0
  | .lit37 => .ll 55 0
  | .lit38 => .ll 56 0
  | .lit39 => .ll 57 0
  | .lit3A => .ll 58 0
  | .lit3B => .ll 59 0
  | .lit3C => .ll 60 0
  | .lit3D => .ll 61 0
  | .lit3E => .ll 62 0
  | .lit3F => .ll 63 0
  | .lit40 => .ll 64 0
  | .lit41 => .ll 65 0
  | .lit42 => .ll 66 0
  | .lit43 => .ll 67 0
  | .lit44 => .ll 68 0
  | .lit45 => .ll 69 0
  | .lit46 => .ll 70 0
  | .lit47 => .ll 71 0
  | .lit48 => .ll 72 0
  | .lit49 => .ll 73 0
  | .lit4A => .ll 74 0
  | .lit4B => .ll 75 0
  | .lit4C => .ll 76 0
  | .lit4D => .ll 77 0
  | .lit4E => .ll 78 0
  | .lit4F => .ll 79 0
  | .lit50 => .ll 80 0
  | .lit51 => .ll 81 0
  | .lit52 => .ll 82 0
  | .lit53 => .ll 83 0
  | .lit54 => .ll 84 0
  | .lit55 => .ll 85 0
  | .lit56 => .ll 86 0
  | .lit57 => .ll 87 0
  | .lit58 => .ll 88 0
  | .lit59 => .ll 89 0
  | .lit5A => .ll 90 0
  | .lit5B => .ll 91 0
  | .lit5C => .ll 92 0
  | .lit5D => .ll 93 0
  | .lit5E => .ll 94 0
  | .lit5F => .ll 95 0
  | .lit60 => .ll 96 0
  | .lit61 => .ll 97 0
  | .lit62 => .ll 98 0
  | .lit63 => .ll 99 0
  | .lit64 => .ll 100 0
  | .lit65 => .ll 101 0
  | .lit66 => .ll 102 0
  | .lit67 => .ll 103 0
  | .lit68 => .ll 104 0
  | .lit69 => .ll 105 0
  | .lit6A => .ll 106 0
  | .lit6B => .ll 107 0
  | .lit6C => .ll 108 0
  | .lit6D => .ll 109 0
  | .lit6E => .ll 110 0
  | .lit6F => .ll 111 0
  | .lit70 => .ll 112 0
  | .lit71 => .ll 113 0
  | .lit72 => .ll 114 0
  | .lit73 => .ll 115 0
  | .lit74 => .ll 116 0
  | .lit75 => .ll 117 0
  | .lit76 => .ll 118 0
  | .lit77 => .ll 119 0
  | .lit78 => .ll 120 0
  | .lit79 => .ll 121 0
  | .lit7A => .ll 122 0
  | .lit7B => .ll 123 0
  | .lit7C => .ll 124 0
  | .lit7D => .ll 125 0
  | .lit7E => .ll 126 0
  | .lit7F => .ll 127 0
  | .lit80 => .ll 128 0
  | .lit81 => .ll 129 0
  | .lit82 => .ll 130 0
  | .lit83 => .ll 131 0
  | .lit84 => .ll 132 0
  | .lit85 => .ll 133 0
  | .lit86 => .ll 134 0
  | .lit87 => .ll 135 0
  | .lit88 => .ll 136 0
  | .lit89 => .ll 137 0
  | .lit8A => .ll 138 0
  | .lit8B => .ll 139 0
  | .lit8C => .ll 140 0
  | .lit8D => .ll 141 0
  | .lit8E => .ll 142 0
  | .lit8F => .ll 143 0
  | .lit90 => .ll 144 0
  | .lit91 => .ll 145 0
  | .lit92 => .ll 146 0
  | .lit93 => .ll 147 0
  | .lit94 => .ll 148 0
  | .lit95 => .ll 149 0
  | .lit96 => .ll 150 0
  | .lit97 => .ll 151 0
  | .lit98 => .ll 152 0
  | .lit99 => .ll 153 0
  | .lit9A => .ll 154 0
  | .lit9B => .ll 155 0
  | .lit9C => .ll 156 0
  | .lit9D => .ll 157 0
  | .lit9E => .ll 158 0
  | .lit9F => .ll 159 0
  | .litA0 => .ll 160 0
  | .litA1 => .ll 161 0
  | .litA2 => .ll 162 0
  | .litA3 => .ll 163 0
  | .litA4 => .ll 164 0
  | .litA5 => .ll 165 0
  | .litA6 => .ll 166 0
  | .litA7 => .ll 167 0
  | .litA8 => .ll 168 0
  | .litA9 => .ll 169 0
  | .litAA => .ll 170 0
  | .litAB => .ll 171 0
  | .litAC => .ll 172 0
  | .litAD => .ll 173 0
  | .litAE => .ll 174 0
  | .litAF => .ll 175 0
  | .litB0 => .ll 176 0
  | .litB1 => .ll 177 0
  | .litB2 => .ll 178 0
  | .litB3 => .ll 179 0
  | .litB4 => .ll 180 0
  | .litB5 => .ll 181 0
  | .litB6 => .ll 182 0
  | .litB7 => .ll 183 0
  | .litB8 => .ll 184 0
  | .litB9 => .ll 185 0
  | .litBA => .ll 186 0
  | .litBB => .ll 187 0
  | .litBC => .ll 188 0
  | .litBD => .ll 189 0
  | .litBE => .ll 190 0
  | .litBF => .ll 191 0
  | .litC0 => .ll 192 0
  | .litC1 => .ll 193 0
  | .litC2 => .ll 194 0
  | .litC3 => .ll 195 0
  | .litC4 => .ll 196 0
  | .litC5 => .ll 197 0
  | .litC6 => .ll 198 0
  | .litC7 => .ll 199 0
  | .litC8 => .ll 200 0
  | .litC9 => .ll 201 0
  | .litCA => .ll 202 0
  | .litCB => .ll 203 0
  | .litCC => .ll 204 0
  | .litCD => .ll 205 0
  | .litCE => .ll 206 0
  | .litCF => .ll 207 0
  | .litD0 => .ll 208 0
  | .litD1 => .ll 209 0
  | .litD2 => .ll 210 0
  | .litD3 => .ll 211 0
  | .litD4 => .ll 212 0
  | .litD5 => .ll 213 0
  | .litD6 => .ll 214 0
  | .litD7 => .ll 215 0
  | .litD8 => .ll 216 0
  | .litD9 => .ll 217 0
  | .litDA => .ll 218 0
  | .litDB => .ll 219 0
  | .litDC => .ll 220 0
  | .litDD => .ll 221 0
  | .litDE => .ll 222 0
  | .litDF => .ll 223 0
  | .litE0 => .ll 224 0
  | .litE1 => .ll 225 0
  | .litE2 => .ll 226 0
  | .litE3 => .ll 227 0
  | .litE4 => .ll 228 0
  | .litE5 => .ll 229 0
  | .litE6 => .ll 230 0
  | .litE7 => .ll 231 0
  | .litE8 => .ll 232 0
  | .litE9 => .ll 233 0
  | .litEA => .ll 234 0
  | .litEB => .ll 235 0
  | .litEC => .ll 236 0
  | .litED => .ll 237 0
  | .litEE => .ll 238 0
  | .litEF => .ll 239 0
  | .litF0 => .ll 240 0
  | .litF1 => .ll 241 0
  | .litF2 => .ll 242 0
  | .litF3 => .ll 243 0
  | .litF4 => .ll 244 0
  | .litF5 => .ll 245 0
  | .litF6 => .ll 246 0
  | .litF7 => .ll 247 0
  | .litF8 => .ll 248 0
  | .litF9 => .ll 249 0
  | .litFA => .ll 250 0
  | .litFB => .ll 251 0
  | .litFC => .ll 252 0
  | .litFD => .ll 253 0
  | .litFE => .ll 254 0
  | .litFF => .ll 255 0
  | .eob => .ll 256 0
  | .len257 => .ll 257 0
  | .len258 => .ll 258 0
  | .len259 => .ll 259 0
  | .len260 => .ll 260 0
  | .len261 => .ll 261 0
  | .len262 => .ll 262 0
  | .len263 => .ll 263 0
  | .len264 => .ll 264 0
  | .len265 e => .ll 265 e.toNat
  | .len266 e => .ll 266 e.toNat
  | .len267 e => .ll 267 e.toNat
  | .len268 e => .ll 268 e.toNat
  | .len269 e => .ll 269 e.toNat
  | .len270 e => .ll 270 e.toNat
  | .len271 e => .ll 271 e.toNat
  | .len272 e => .ll 272 e.toNat
  | .len273 e => .ll 273 e.toNat
  | .len274 e => .ll 274 e.toNat
  | .len275 e => .ll 275 e.toNat
  | .len276 e => .ll 276 e.toNat
  | .len277 e => .ll 277 e.toNat
  | .len278 e => .ll 278 e.toNat
  | .len279 e => .ll 279 e.toNat
  | .len280 e => .ll 280 e.toNat
  | .len281 e => .ll 281 e.toNat
  | .len282 e => .ll 282 e.toNat
  | .len283 e => .ll 283 e.toNat
  | .len284 e => .ll 284 e.toNat
  | .len285 => .ll 285 0
  | .llRsvd286 => .ll 286 0
  | .llRsvd287 => .ll 287 0
  | .dist0 => .dist 0 0
  | .dist1 => .dist 1 0
  | .dist2 => .dist 2 0
  | .dist3 => .dist 3 0
  | .dist4 e => .dist 4 e.toNat
  | .dist5 e => .dist 5 e.toNat
  | .dist6 e => .dist 6 e.toNat
  | .dist7 e => .dist 7 e.toNat
  | .dist8 e => .dist 8 e.toNat
  | .dist9 e => .dist 9 e.toNat
  | .dist10 e => .dist 10 e.toNat
  | .dist11 e => .dist 11 e.toNat
  | .dist12 e => .dist 12 e.toNat
  | .dist13 e => .dist 13 e.toNat
  | .dist14 e => .dist 14 e.toNat
  | .dist15 e => .dist 15 e.toNat
  | .dist16 e => .dist 16 e.toNat
  | .dist17 e => .dist 17 e.toNat
  | .dist18 e => .dist 18 e.toNat
  | .dist19 e => .dist 19 e.toNat
  | .dist20 e => .dist 20 e.toNat
  | .dist21 e => .dist 21 e.toNat
  | .dist22 e => .dist 22 e.toNat
  | .dist23 e => .dist 23 e.toNat
  | .dist24 e => .dist 24 e.toNat
  | .dist25 e => .dist 25 e.toNat
  | .dist26 e => .dist 26 e.toNat
  | .dist27 e => .dist 27 e.toNat
  | .dist28 e => .dist 28 e.toNat
  | .dist29 e => .dist 29 e.toNat
  | .dRsvd30 => .dist 30 0
  | .dRsvd31 => .dist 31 0

/-- The code-length symbols 0..18, each with its extra field to come. -/
def clTable : List (Nat → Instr) :=
  [fun _ => .cl0,
   fun _ => .cl1,
   fun _ => .cl2,
   fun _ => .cl3,
   fun _ => .cl4,
   fun _ => .cl5,
   fun _ => .cl6,
   fun _ => .cl7,
   fun _ => .cl8,
   fun _ => .cl9,
   fun _ => .cl10,
   fun _ => .cl11,
   fun _ => .cl12,
   fun _ => .cl13,
   fun _ => .cl14,
   fun _ => .cl15,
   fun e => .clRepPrev (BitVec.ofNat 2 e),
   fun e => .clRepZ3 (BitVec.ofNat 3 e),
   fun e => .clRepZ11 (BitVec.ofNat 7 e)]

def llTable0 : List (Nat → Instr) :=
  [fun _ => .lit00,
   fun _ => .lit01,
   fun _ => .lit02,
   fun _ => .lit03,
   fun _ => .lit04,
   fun _ => .lit05,
   fun _ => .lit06,
   fun _ => .lit07,
   fun _ => .lit08,
   fun _ => .lit09,
   fun _ => .lit0A,
   fun _ => .lit0B,
   fun _ => .lit0C,
   fun _ => .lit0D,
   fun _ => .lit0E,
   fun _ => .lit0F,
   fun _ => .lit10,
   fun _ => .lit11,
   fun _ => .lit12,
   fun _ => .lit13,
   fun _ => .lit14,
   fun _ => .lit15,
   fun _ => .lit16,
   fun _ => .lit17,
   fun _ => .lit18,
   fun _ => .lit19,
   fun _ => .lit1A,
   fun _ => .lit1B,
   fun _ => .lit1C,
   fun _ => .lit1D,
   fun _ => .lit1E,
   fun _ => .lit1F]

def llTable1 : List (Nat → Instr) :=
  [fun _ => .lit20,
   fun _ => .lit21,
   fun _ => .lit22,
   fun _ => .lit23,
   fun _ => .lit24,
   fun _ => .lit25,
   fun _ => .lit26,
   fun _ => .lit27,
   fun _ => .lit28,
   fun _ => .lit29,
   fun _ => .lit2A,
   fun _ => .lit2B,
   fun _ => .lit2C,
   fun _ => .lit2D,
   fun _ => .lit2E,
   fun _ => .lit2F,
   fun _ => .lit30,
   fun _ => .lit31,
   fun _ => .lit32,
   fun _ => .lit33,
   fun _ => .lit34,
   fun _ => .lit35,
   fun _ => .lit36,
   fun _ => .lit37,
   fun _ => .lit38,
   fun _ => .lit39,
   fun _ => .lit3A,
   fun _ => .lit3B,
   fun _ => .lit3C,
   fun _ => .lit3D,
   fun _ => .lit3E,
   fun _ => .lit3F]

def llTable2 : List (Nat → Instr) :=
  [fun _ => .lit40,
   fun _ => .lit41,
   fun _ => .lit42,
   fun _ => .lit43,
   fun _ => .lit44,
   fun _ => .lit45,
   fun _ => .lit46,
   fun _ => .lit47,
   fun _ => .lit48,
   fun _ => .lit49,
   fun _ => .lit4A,
   fun _ => .lit4B,
   fun _ => .lit4C,
   fun _ => .lit4D,
   fun _ => .lit4E,
   fun _ => .lit4F,
   fun _ => .lit50,
   fun _ => .lit51,
   fun _ => .lit52,
   fun _ => .lit53,
   fun _ => .lit54,
   fun _ => .lit55,
   fun _ => .lit56,
   fun _ => .lit57,
   fun _ => .lit58,
   fun _ => .lit59,
   fun _ => .lit5A,
   fun _ => .lit5B,
   fun _ => .lit5C,
   fun _ => .lit5D,
   fun _ => .lit5E,
   fun _ => .lit5F]

def llTable3 : List (Nat → Instr) :=
  [fun _ => .lit60,
   fun _ => .lit61,
   fun _ => .lit62,
   fun _ => .lit63,
   fun _ => .lit64,
   fun _ => .lit65,
   fun _ => .lit66,
   fun _ => .lit67,
   fun _ => .lit68,
   fun _ => .lit69,
   fun _ => .lit6A,
   fun _ => .lit6B,
   fun _ => .lit6C,
   fun _ => .lit6D,
   fun _ => .lit6E,
   fun _ => .lit6F,
   fun _ => .lit70,
   fun _ => .lit71,
   fun _ => .lit72,
   fun _ => .lit73,
   fun _ => .lit74,
   fun _ => .lit75,
   fun _ => .lit76,
   fun _ => .lit77,
   fun _ => .lit78,
   fun _ => .lit79,
   fun _ => .lit7A,
   fun _ => .lit7B,
   fun _ => .lit7C,
   fun _ => .lit7D,
   fun _ => .lit7E,
   fun _ => .lit7F]

def llTable4 : List (Nat → Instr) :=
  [fun _ => .lit80,
   fun _ => .lit81,
   fun _ => .lit82,
   fun _ => .lit83,
   fun _ => .lit84,
   fun _ => .lit85,
   fun _ => .lit86,
   fun _ => .lit87,
   fun _ => .lit88,
   fun _ => .lit89,
   fun _ => .lit8A,
   fun _ => .lit8B,
   fun _ => .lit8C,
   fun _ => .lit8D,
   fun _ => .lit8E,
   fun _ => .lit8F,
   fun _ => .lit90,
   fun _ => .lit91,
   fun _ => .lit92,
   fun _ => .lit93,
   fun _ => .lit94,
   fun _ => .lit95,
   fun _ => .lit96,
   fun _ => .lit97,
   fun _ => .lit98,
   fun _ => .lit99,
   fun _ => .lit9A,
   fun _ => .lit9B,
   fun _ => .lit9C,
   fun _ => .lit9D,
   fun _ => .lit9E,
   fun _ => .lit9F]

def llTable5 : List (Nat → Instr) :=
  [fun _ => .litA0,
   fun _ => .litA1,
   fun _ => .litA2,
   fun _ => .litA3,
   fun _ => .litA4,
   fun _ => .litA5,
   fun _ => .litA6,
   fun _ => .litA7,
   fun _ => .litA8,
   fun _ => .litA9,
   fun _ => .litAA,
   fun _ => .litAB,
   fun _ => .litAC,
   fun _ => .litAD,
   fun _ => .litAE,
   fun _ => .litAF,
   fun _ => .litB0,
   fun _ => .litB1,
   fun _ => .litB2,
   fun _ => .litB3,
   fun _ => .litB4,
   fun _ => .litB5,
   fun _ => .litB6,
   fun _ => .litB7,
   fun _ => .litB8,
   fun _ => .litB9,
   fun _ => .litBA,
   fun _ => .litBB,
   fun _ => .litBC,
   fun _ => .litBD,
   fun _ => .litBE,
   fun _ => .litBF]

def llTable6 : List (Nat → Instr) :=
  [fun _ => .litC0,
   fun _ => .litC1,
   fun _ => .litC2,
   fun _ => .litC3,
   fun _ => .litC4,
   fun _ => .litC5,
   fun _ => .litC6,
   fun _ => .litC7,
   fun _ => .litC8,
   fun _ => .litC9,
   fun _ => .litCA,
   fun _ => .litCB,
   fun _ => .litCC,
   fun _ => .litCD,
   fun _ => .litCE,
   fun _ => .litCF,
   fun _ => .litD0,
   fun _ => .litD1,
   fun _ => .litD2,
   fun _ => .litD3,
   fun _ => .litD4,
   fun _ => .litD5,
   fun _ => .litD6,
   fun _ => .litD7,
   fun _ => .litD8,
   fun _ => .litD9,
   fun _ => .litDA,
   fun _ => .litDB,
   fun _ => .litDC,
   fun _ => .litDD,
   fun _ => .litDE,
   fun _ => .litDF]

def llTable7 : List (Nat → Instr) :=
  [fun _ => .litE0,
   fun _ => .litE1,
   fun _ => .litE2,
   fun _ => .litE3,
   fun _ => .litE4,
   fun _ => .litE5,
   fun _ => .litE6,
   fun _ => .litE7,
   fun _ => .litE8,
   fun _ => .litE9,
   fun _ => .litEA,
   fun _ => .litEB,
   fun _ => .litEC,
   fun _ => .litED,
   fun _ => .litEE,
   fun _ => .litEF,
   fun _ => .litF0,
   fun _ => .litF1,
   fun _ => .litF2,
   fun _ => .litF3,
   fun _ => .litF4,
   fun _ => .litF5,
   fun _ => .litF6,
   fun _ => .litF7,
   fun _ => .litF8,
   fun _ => .litF9,
   fun _ => .litFA,
   fun _ => .litFB,
   fun _ => .litFC,
   fun _ => .litFD,
   fun _ => .litFE,
   fun _ => .litFF]

def llTable8 : List (Nat → Instr) :=
  [fun _ => .eob,
   fun _ => .len257,
   fun _ => .len258,
   fun _ => .len259,
   fun _ => .len260,
   fun _ => .len261,
   fun _ => .len262,
   fun _ => .len263,
   fun _ => .len264,
   fun e => .len265 (BitVec.ofNat 1 e),
   fun e => .len266 (BitVec.ofNat 1 e),
   fun e => .len267 (BitVec.ofNat 1 e),
   fun e => .len268 (BitVec.ofNat 1 e),
   fun e => .len269 (BitVec.ofNat 2 e),
   fun e => .len270 (BitVec.ofNat 2 e),
   fun e => .len271 (BitVec.ofNat 2 e),
   fun e => .len272 (BitVec.ofNat 2 e),
   fun e => .len273 (BitVec.ofNat 3 e),
   fun e => .len274 (BitVec.ofNat 3 e),
   fun e => .len275 (BitVec.ofNat 3 e),
   fun e => .len276 (BitVec.ofNat 3 e),
   fun e => .len277 (BitVec.ofNat 4 e),
   fun e => .len278 (BitVec.ofNat 4 e),
   fun e => .len279 (BitVec.ofNat 4 e),
   fun e => .len280 (BitVec.ofNat 4 e),
   fun e => .len281 (BitVec.ofNat 5 e),
   fun e => .len282 (BitVec.ofNat 5 e),
   fun e => .len283 (BitVec.ofNat 5 e),
   fun e => .len284 (BitVec.ofNat 5 e),
   fun _ => .len285,
   fun _ => .llRsvd286,
   fun _ => .llRsvd287]

/-- The literal/length symbols 0..287, each with its extra field to come. -/
def llTable : List (Nat → Instr) :=
  llTable0 ++ (llTable1 ++ (llTable2 ++ (llTable3 ++ (llTable4 ++ (llTable5 ++ (llTable6 ++ (llTable7 ++ (llTable8))))))))

/-- The distance symbols 0..31, each with its extra field to come. -/
def distTable : List (Nat → Instr) :=
  [fun _ => .dist0,
   fun _ => .dist1,
   fun _ => .dist2,
   fun _ => .dist3,
   fun e => .dist4 (BitVec.ofNat 1 e),
   fun e => .dist5 (BitVec.ofNat 1 e),
   fun e => .dist6 (BitVec.ofNat 2 e),
   fun e => .dist7 (BitVec.ofNat 2 e),
   fun e => .dist8 (BitVec.ofNat 3 e),
   fun e => .dist9 (BitVec.ofNat 3 e),
   fun e => .dist10 (BitVec.ofNat 4 e),
   fun e => .dist11 (BitVec.ofNat 4 e),
   fun e => .dist12 (BitVec.ofNat 5 e),
   fun e => .dist13 (BitVec.ofNat 5 e),
   fun e => .dist14 (BitVec.ofNat 6 e),
   fun e => .dist15 (BitVec.ofNat 6 e),
   fun e => .dist16 (BitVec.ofNat 7 e),
   fun e => .dist17 (BitVec.ofNat 7 e),
   fun e => .dist18 (BitVec.ofNat 8 e),
   fun e => .dist19 (BitVec.ofNat 8 e),
   fun e => .dist20 (BitVec.ofNat 9 e),
   fun e => .dist21 (BitVec.ofNat 9 e),
   fun e => .dist22 (BitVec.ofNat 10 e),
   fun e => .dist23 (BitVec.ofNat 10 e),
   fun e => .dist24 (BitVec.ofNat 11 e),
   fun e => .dist25 (BitVec.ofNat 11 e),
   fun e => .dist26 (BitVec.ofNat 12 e),
   fun e => .dist27 (BitVec.ofNat 12 e),
   fun e => .dist28 (BitVec.ofNat 13 e),
   fun e => .dist29 (BitVec.ofNat 13 e),
   fun _ => .dRsvd30,
   fun _ => .dRsvd31]

/-- The element with these fields. A symbol number beyond an alphabet, which no table of the engine has, is the alphabet's last
symbol, as the last branch of the step's pseudocode takes it (42_block_decoder R200, R204; 43 R221). -/
def Head.instr : Head → Instr
  | .header t f =>
    if t = 0 then .blockStored f else if t = 1 then .blockFixed f else if t = 2 then .blockDynamic f else .blockReserved f
  | .stored len nlen => .storedBody len nlen
  | .dyn hlit hdist hclen cll => .dynhdr hlit hdist hclen cll
  | .cl s e => clTable.getD s (fun e => .clRepZ11 (BitVec.ofNat 7 e)) e
  | .ll s e => llTable.getD s (fun _ => .llRsvd287) e
  | .dist d e => distTable.getD d (fun _ => .dRsvd31) e

end Sys2Proof
end

