-- ==== Sys2Proof/WellFormed.lean ====
section
/-! DEFINITION. Which elements an encoding exists for: each symbol is in its alphabet, each extra field fits the bits its symbol
has, and a dynamic header holds as many code-length-alphabet lengths as its `HCLEN` field says (30_encoding R93 to R96). -/

namespace Sys2Proof

/-- The checks on the fields of an element. `NLEN` is not checked: a stored block with a wrong one is an element, which faults
when it is executed (42_block_decoder R185). -/
def Head.wf : Head → Bool
  | .header _ _ => true
  | .stored _ _ => true
  | .dyn _ _ hclen cll => cll.length == hclen.toNat + 4
  | .cl c e => Nat.blt c Config.N_CL && Nat.blt e (2 ^ Machine.clExtraBits c)
  | .ll s e => Nat.blt s Config.CAP_LL && Nat.blt e (2 ^ Machine.llExtraBits s)
  | .dist d e => Nat.blt d Config.CAP_D && Nat.blt e (2 ^ Machine.distExtraBits d)

/-- The element is well formed. The types of the operands leave one check that an element can fail: the length of the list of a
dynamic header. -/
def Instr.wf (i : Instr) : Bool := i.head.wf

end Sys2Proof
end

