-- ==== Sys2Proof/Decode.lean ====
section
/-! DEFINITION. Decoding one stream element from a source of bits, total and refusing by the name of an error kind, and the
encoder (30_encoding R90 to R99, R110 to R112). What a bit sequence means depends on the block it stands in (R98), so both
take the context: the kind of element expected and the length table in use. -/

namespace Sys2Proof

open Sys2Proof.Machine

/-- What kind of element the engine expects next, with the code lengths it decodes it by (30_encoding R98). -/
inductive Ctx where
  | header
  | stored
  | dynHeader
  /-- `first`: no code length of the block has been decoded yet (`idx = 0`, 43 R223). -/
  | codeLen (L : List Nat) (first : Bool)
  | litLen (L : List Nat)
  | distance (L : List Nat)
  deriving DecidableEq, Repr

/-- `F_HDR` (30_encoding R91): `BFINAL`, then `BTYPE`. -/
def decodeHeader {σ : Type} (src : Source σ) (s : σ) : Rd σ Instr :=
  (readBits src 1 .lsb s).bind fun f s =>
    let bfinal := BitVec.ofNat 1 f
    (readBits src 2 .lsb (src.latch (.bfinal bfinal) s)).bind fun t s =>
      .ok (Head.instr (.header (BitVec.ofNat 2 t) bfinal)) s

/-- `F_STORED` up to its payload (30_encoding R92): drop the pad, then `LEN` and `NLEN`. -/
def decodeStored {σ : Type} (src : Source σ) (s : σ) : Rd σ Instr :=
  (readBits src 16 .lsb (src.align s)).bind fun len s =>
    (readBits src 16 .lsb s).bind fun nlen s =>
      .ok (Head.instr (.stored (BitVec.ofNat 16 len) (BitVec.ofNat 16 nlen))) s

/-- The 3-bit code-length-alphabet lengths, for the symbols given, in stream order (30_encoding R93). -/
def readClLens {σ : Type} (src : Source σ) : List Nat → σ → Rd σ (List (BitVec 3))
  | [], s => .ok [] s
  | c :: cs, s =>
    (readBits src 3 .lsb s).bind fun v s =>
      (readClLens src cs (src.latch (.clLen c (BitVec.ofNat 3 v)) s)).bind fun vs s =>
        .ok (BitVec.ofNat 3 v :: vs) s

/-- `F_DYNHDR` (30_encoding R93). -/
def decodeDynHeader {σ : Type} (src : Source σ) (s : σ) : Rd σ Instr :=
  (readBits src 5 .lsb s).bind fun hlit s =>
    let hlit := BitVec.ofNat 5 hlit
    (readBits src 5 .lsb (src.latch (.nLl (litLenCount hlit)) s)).bind fun hdist s =>
      let hdist := BitVec.ofNat 5 hdist
      (readBits src 4 .lsb (src.latch (.nD (distCount hdist)) s)).bind fun hclen s =>
        let hclen := BitVec.ofNat 4 hclen
        let s := src.latch .clearClLen (src.latch (.nCl (codeLenCount hclen)) s)
        (readClLens src (clOrder.take (hclen.toNat + 4)) s).bind fun cll s =>
          .ok (Head.instr (.dyn hlit hdist hclen cll)) s

/-- `F_CLSYM` (30_encoding R94). Symbol 16 with no length before it faults before its extra bits are read (43 R223), so they
are left in the stream and the operand is 0 (log 5). -/
def decodeCodeLen {σ : Type} (src : Source σ) (L : List Nat) (first : Bool) (s : σ) : Rd σ Instr :=
  (decodeSymbol src L Config.MAXBITS_CL s).bind fun c s =>
    if first && c == 16 then .ok (Head.instr (.cl c 0)) s
    else (readBits src (clExtraBits c) .lsb s).bind fun e s => .ok (Head.instr (.cl c e)) s

/-- `F_LLSYM` up to the distance element that follows a length (30_encoding R95). -/
def decodeLitLen {σ : Type} (src : Source σ) (L : List Nat) (s : σ) : Rd σ Instr :=
  (decodeSymbol src L Config.MAXBITS s).bind fun y s =>
    (readBits src (llExtraBits y) .lsb s).bind fun e s => .ok (Head.instr (.ll y e)) s

/-- `F_DSYM` (30_encoding R96). -/
def decodeDistance {σ : Type} (src : Source σ) (L : List Nat) (s : σ) : Rd σ Instr :=
  (decodeSymbol src L Config.MAXBITS s).bind fun d s =>
    (readBits src (distExtraBits d) .lsb s).bind fun e s => .ok (Head.instr (.dist d e)) s

/-- Decode one element of the expected kind (30_encoding R98). -/
def decodeElement {σ : Type} (src : Source σ) (ctx : Ctx) (s : σ) : Rd σ Instr :=
  match ctx with
  | .header => decodeHeader src s
  | .stored => decodeStored src s
  | .dynHeader => decodeDynHeader src s
  | .codeLen L first => decodeCodeLen src L first s
  | .litLen L => decodeLitLen src L s
  | .distance L => decodeDistance src L s

/-- A field of `n` bits in stream order, bit 0 first (00_scope R9). -/
def lsbBits (n v : Nat) : List Bool := (List.range n).map fun j => v.testBit j

/-- The code word of a symbol of a table, in stream order; none for a symbol the table leaves unused. -/
def symbolBits (L : List Nat) (maxbits s : Nat) : Option (List Bool) :=
  ((codes L maxbits).find? (fun c => c.sym == s)).map Code.bits

/-- The bits of an element where it is of the expected kind and its symbol has a code (30_encoding R91 to R96). A stored
body's are those after the pad and before the payload. -/
def encode (ctx : Ctx) (i : Instr) : Option (List Bool) :=
  match ctx, i.head with
  | .header, .header t f => some (lsbBits 1 f.toNat ++ lsbBits 2 t.toNat)
  | .stored, .stored len nlen => some (lsbBits 16 len.toNat ++ lsbBits 16 nlen.toNat)
  | .dynHeader, .dyn hlit hdist hclen cll =>
    some (lsbBits 5 hlit.toNat ++ (lsbBits 5 hdist.toNat ++ (lsbBits 4 hclen.toNat ++ cll.flatMap fun v => lsbBits 3 v.toNat)))
  | .codeLen L first, .cl c e =>
    (symbolBits L Config.MAXBITS_CL c).map (· ++ if first && c == 16 then [] else lsbBits (clExtraBits c) e)
  | .litLen L, .ll s e => (symbolBits L Config.MAXBITS s).map (· ++ lsbBits (llExtraBits s) e)
  | .distance L, .dist d e => (symbolBits L Config.MAXBITS d).map (· ++ lsbBits (distExtraBits d) e)
  | _, _ => none

/-- Bits of a byte list in stream order, bit 0 of each byte first (20_memory R61). -/
def bitsOfBytes (bs : List Byte) : List Bool := bs.flatMap fun b => lsbBits 8 b.toNat

/-- The number whose bit `j` is the `j`-th bit of the list. -/
def natOfBits : List Bool → Nat
  | [] => 0
  | b :: t => b.toNat + 2 * natOfBits t

/-- `n` bytes from a bit list, bit 0 of each byte first, zeros after the end of the list (20_memory R61). -/
def bytesOfBits : Nat → List Bool → List Byte
  | 0, _ => []
  | n + 1, l => BitVec.ofNat 8 (natOfBits (l.take 8)) :: bytesOfBits n (l.drop 8)

/-- The bits that spec/opcode_table.json numbers, in stream order: a pattern of the table is written in stream order and
numbered with its last bit as bit 0 (log 12). -/
def tableWordBits (nbits w : Nat) : List Bool := (List.range nbits).map fun j => w.testBit (nbits - 1 - j)

/-- The same bits as bytes of IMEM, zeros after them. -/
def tableWordBytes (nbits w : Nat) : List Byte := bytesOfBits (nbits / 8 + 12) (tableWordBits nbits w)

/-- The context a pattern of the table is read in, with the codes of a fixed block (30_encoding R110): a header where it has
at most 3 bits, a literal/length symbol where it is exactly one element of that kind, otherwise a distance symbol. At 8 bits,
where both kinds have patterns and two distance patterns are also literals, it is a literal/length symbol (log 12). -/
def tableContext (nbits w : Nat) : Ctx :=
  if nbits ≤ 3 then .header
  else if nbits = 8 then .litLen fixedLl
  else
    match decodeLitLen listSource fixedLl (tableWordBits nbits w) with
    | .ok _ [] => .litLen fixedLl
    | _ => .distance fixedD

/-- The element the decoder reads from a word of the opcode table. -/
def decodeTableWord (nbits w : Nat) : Option Instr :=
  match decodeElement listSource (tableContext nbits w) (bitsOfBytes (tableWordBytes nbits w)) with
  | .ok i _ => some i
  | .err _ _ => none

/-- The reference classification of a fixed-block literal/length symbol by ranges of its code (42_block_decoder R192).
Informative: the engine decodes by the table. -/
def classifyFixedLl {σ : Type} (src : Source σ) (s : σ) : Rd σ Nat :=
  (readBits src 7 .msb s).bind fun v7 s =>
    if v7 ≤ 23 then .ok (256 + v7) s
    else (readBits src 1 .msb s).bind fun b s =>
      let v8 := v7 * 2 + b
      if 48 ≤ v8 ∧ v8 ≤ 191 then .ok (v8 - 48) s
      else if 192 ≤ v8 ∧ v8 ≤ 199 then .ok (280 + (v8 - 192)) s
      else (readBits src 1 .msb s).bind fun b s => .ok (144 + (v8 * 2 + b - 400)) s

/-- `MATCH len dist` of the stream notation: the length element and the distance element it stands for (30_encoding R112). -/
def matchElements (len dist : Nat) : Instr × Instr :=
  let k := lenBase.countP (fun b => decide (b ≤ len)) - 1
  let d := dstBase.countP (fun b => decide (b ≤ dist)) - 1
  (Head.instr (.ll (257 + k) (len - lenBase.getD k 0)), Head.instr (.dist d (dist - dstBase.getD d 0)))

/-- `DYNHDR hlit hdist cl` of the stream notation: the field values, and the least `HCLEN` that covers every non-zero entry
(30_encoding R111). `cl` is indexed by code-length symbol. -/
def dynHeaderOf (hlit hdist : Nat) (cl : List Nat) : Instr :=
  let inOrder := clOrder.map fun c => cl.getD c 0
  let used := (inOrder.reverse.dropWhile (· == 0)).length
  let n := max 4 used
  .dynhdr (BitVec.ofNat 5 (hlit - 257)) (BitVec.ofNat 5 (hdist - 1)) (BitVec.ofNat 4 (n - 4))
    ((inOrder.take n).map (BitVec.ofNat 3))

end Sys2Proof
end

