-- ==== Sys2Proof/Machine/Fetch.lean ====
section
/-! DEFINITION. Fetching: which kind of element a state expects, reading it from IMEM through the bit cursor, and placing the
bits of one element where the next step reads them. -/

namespace Sys2Proof.Machine

/-- The kinds of element the busy states read (42_block_decoder R180, 43 R221). In `S_SYMBOL` the distance half of a match
follows its length half (30_encoding R95). -/
def codeLenCtx (s : State) : Ctx := .codeLen s.clLengths (s.idx == 0)

def symbolCtx (s : State) : Ctx := if s.matchLen = 0 then .litLen s.llLengths else .distance s.dLengths

/-- Read one element at the cursor (30_encoding R98). -/
def fetch (ctx : Ctx) (s : State) : Rd State Instr := decodeElement stateSource ctx s

/-- The state in which the next step reads the bits of a row of spec/opcode_table.json: its bytes at the cursor, moved to a byte
boundary, enough of them valid, and the control state that reads such an element in a fixed block (log 12). It stands for what
the host's load and the steps before the element would have set up (log 11). -/
def placeWord (nbits w : Nat) (s : State) : State :=
  let bytes := tableWordBytes nbits w
  let start := s.cur.inPos.toNat
  let placed := { s with
    imem := Memory.writeBytes s.imem start bytes
    cur := s.cur.align
    inLen := if s.inLen.toNat < start + bytes.length then BitVec.ofNat s.aw (start + bytes.length) else s.inLen }
  match tableContext nbits w with
  | .header => { placed with fsm := .header }
  | .distance _ => { placed with fsm := .symbol, nLl := 288, nD := 32, lens := fixedLens, matchLen := 3 }
  | _ => { placed with fsm := .symbol, nLl := 288, nD := 32, lens := fixedLens, matchLen := 0 }

end Sys2Proof.Machine
end

