-- ==== Sys2Proof/Machine/Cycle.lean ====
section
/-! DEFINITION. The architectural step (42_block_decoder R180): read one element and execute it, or set up the tables. -/

namespace Sys2Proof.Machine

/-- Read one element and execute it; a fault met while reading it is taken with the cursor as it then stands
(60_exceptions R275, R283). -/
def runElement (ctx : Ctx) (s : State) : Result :=
  match fetch ctx s with
  | .ok i t => exec i t
  | .err e t => raised e t

/-- Step `S_SYMBOL` (42_block_decoder R200): one literal/length element and, in the same step, the distance element that follows
a length (R204, log 4). -/
def symbolStep (s : State) : Result :=
  andThen (runElement (symbolCtx s) s) fun t =>
    if s.matchLen = 0 ∧ t.matchLen ≠ 0 then runElement (symbolCtx t) t else .next t

/-- One architectural step from each state of the BlockDecoder (42_block_decoder R180). In `S_IDLE`, `S_DONE` and `S_ERROR` the
engine takes no step and keeps all state (60_exceptions R292, log 13). -/
def cycle (s : State) : Result :=
  match s.fsm with
  | .idle => .next s
  | .header => runElement .header s
  | .stored => runElement .stored s
  | .fixed => fixedSetup s
  | .dynHeader => runElement .dynHeader s
  | .dynLengths => runElement (codeLenCtx s) s
  | .dynBuild => dynBuild s
  | .symbol => symbolStep s
  | .done => .next s
  | .error => .next s

end Sys2Proof.Machine
end

