-- ==== Sys2Proof/Machine/Step.lean ====
section
/-! DEFINITION. One step of the machine, and the state that runs one row of the opcode table next. -/

namespace Sys2Proof.Machine

/-- One architectural step (42_block_decoder R180). -/
def step (s : State) : Host.Outcome State Fault Refusal := Sys2Proof.Machine.cycle s

/-- `s` with the element whose bits the opcode table numbers as `w` where the next step reads it (log 11, log 12). -/
def State.withFetchWord (s : State) (nbits w : Nat) : State := Sys2Proof.Machine.placeWord nbits w s

end Sys2Proof.Machine
end

