-- ==== Sys2Proof/Machine/HostPort.lean ====
section
/-! DEFINITION. What the host can do to the engine (45_host_interface R250 to R257, 10_state R30 to R37, R45, R46, 70 R312):
register reads and writes, START, loading IMEM, providing and reading OMEM, reset. Each falls between two steps (log 11). -/

namespace Sys2Proof.Machine

/-- A host read of `OUT_COUNT` or `IN_POS`: the register, or while BUSY a free value (10_state R35, R36; 93 X1; log 8). -/
def readPosition (s : State) (v : Addr s.aw) : Addr s.aw × State :=
  if s.busy then (Config.busyRead s.aw s.draws, { s with draws := s.draws + 1 }) else (v, s)

/-- `HostRead(index)` (45_host_interface R250, 10_state R30). -/
def hostRead (index : Nat) (s : State) : Addr s.aw × State :=
  match index with
  | 1 => ((statusOf s.fsm).setWidth s.aw, s)
  | 2 => ((errValue s.err).setWidth s.aw, s)
  | 3 => (s.inLen, s)
  | 4 => (s.outCap, s)
  | 5 => readPosition s s.outPos
  | 6 => readPosition s s.cur.inPos
  | _ => (0, s)

/-- The values START sets (10_state R46, 45_host_interface R251). -/
def State.start (s : State) : State :=
  { s with cur := Cursor.zero, outPos := 0, err := none, bfinal := 0, btype := 0, fsm := .header, matchLen := 0 }

/-- The START command (45_host_interface R251, R252), refused where the spec tells a model to refuse the launch
(93 X2, X4; log 10). -/
def hostStart (s : State) : Result :=
  if s.busy then .next s
  else if (s.platform.inLenWritten && s.platform.outCapWritten) = false then .refused .startBeforeLengths
  else if s.platform.imemSize < s.inLen.toNat then .refused .inputBeyondImem
  else if s.platform.omemSize < s.outCap.toNat then .refused .outputBeyondOmem
  else .next s.start

/-- A host write of `IN_LEN` or `OUT_CAP`: the low AW bits, ignored while BUSY (45_host_interface R250). -/
def writeInLen (v : Nat) (s : State) : State :=
  if s.busy then s
  else { s with inLen := BitVec.ofNat s.aw v, platform := { s.platform with inLenWritten := true } }

def writeOutCap (v : Nat) (s : State) : State :=
  if s.busy then s
  else { s with outCap := BitVec.ofNat s.aw v, platform := { s.platform with outCapWritten := true } }

/-- `HostWrite(index, value)` (45_host_interface R250, R251; 10_state R30, R32). -/
def hostWrite (index value : Nat) (s : State) : Result :=
  match index with
  | 0 => if value.testBit 0 then hostStart s else .next s
  | 3 => .next (writeInLen value s)
  | 4 => .next (writeOutCap value s)
  | _ => .next s

/-- The host writes the compressed bytes into IMEM from address 0 (70 R312 step 3); not while BUSY (70 R320, 93 X3). -/
def hostLoadImem (bytes : List Byte) (s : State) : Result :=
  if s.busy then .refused .memoryTouchedWhileBusy
  else if 2 ^ s.aw < bytes.length then .refused .outsideMemory
  else .next { s with imem := Memory.writeBytes s.imem 0 bytes,
                      platform := { s.platform with imemSize := max s.platform.imemSize bytes.length } }

/-- The host provides an OMEM with this content (70 R312 step 4); not while BUSY (70 R320, 93 X3). -/
def hostProvideOmem (bytes : List Byte) (s : State) : Result :=
  if s.busy then .refused .memoryTouchedWhileBusy
  else if 2 ^ s.aw < bytes.length then .refused .outsideMemory
  else .next { s with omem := Memory.writeBytes [] 0 bytes,
                      platform := { s.platform with omemSize := bytes.length } }

/-- The host reads a byte of OMEM (70 R312 step 7); not while BUSY (70 R320, 93 X3). -/
def hostReadOmem (a : Nat) (s : State) : Host.Outcome Byte Fault Refusal :=
  if s.busy then .refused .memoryTouchedWhileBusy
  else if s.platform.omemSize ≤ a then .refused .outsideMemory
  else .next (Memory.read s.omem a)

/-- Free bytes from a draw on (93 X6). -/
def freeBytes : Nat → Nat → List Byte
  | 0, _ => []
  | n + 1, d => Config.resetByte d :: freeBytes n (d + 1)

/-- OMEM after a reset: untouched, but for the bytes an interrupted run could have written (10_state R45, 93 X6, log 9). -/
def omemAfterReset (s : State) : Memory :=
  if s.busy then Memory.writeBytes s.omem 0 (freeBytes s.outCap.toNat s.draws) else s.omem

/-- Hardware reset in any state (10_state R45, 70 R310). What R45 leaves unspecified takes the values of `State.reset`
(log 3); both memories are kept. -/
def hostReset (s : State) : State :=
  { State.resetAt s.aw with
    imem := s.imem
    omem := omemAfterReset s
    draws := if s.busy then s.draws + s.outCap.toNat else s.draws
    platform := { s.platform with inLenWritten := false, outCapWritten := false } }

/-- Everything the host can do. -/
inductive HostOp where
  | read (index : Nat)
  | write (index value : Nat)
  | loadImem (bytes : List Byte)
  | provideOmem (bytes : List Byte)
  | readOmem (a : Nat)
  | reset
  deriving DecidableEq, Repr

/-- The state after a host operation. -/
def hostStep (op : HostOp) (s : State) : Result :=
  match op with
  | .read index => .next (hostRead index s).2
  | .write index value => hostWrite index value s
  | .loadImem bytes => hostLoadImem bytes s
  | .provideOmem bytes => hostProvideOmem bytes s
  | .readOmem a =>
    match hostReadOmem a s with
    | .next _ => .next s
    | .fault e => .fault e
    | .refused e => .refused e
  | .reset => .next (hostReset s)

end Sys2Proof.Machine
end

