-- ==== Sys2Proof/Safety.lean ====
section
/-! DEFINITION. What claims are stated in: the invariants of the engine (10_state R39), a safe step (20_memory R67), and what the
engine and its host can reach. -/

namespace Sys2Proof.Machine

/-- Invariants 1, 2 and 3 of 10_state R39: the cursor is inside the input, and `bitbuf` holds exactly the unread bits of the
last loaded byte. -/
def CursorInv (s : State) : Prop :=
  s.cur.inPos.toNat ≤ s.inLen.toNat ∧
  s.cur.bitbuf.toNat < 2 ^ s.cur.bitcnt.toNat ∧
  (s.cur.bitcnt ≠ 0 → 1 ≤ s.cur.inPos.toNat ∧
    s.cur.bitbuf = Memory.read s.imem (s.cur.inPos.toNat - 1) >>> (8 - s.cur.bitcnt.toNat))

/-- Invariant 4 of 10_state R39. -/
def OutputInv (s : State) : Prop := s.outPos.toNat ≤ s.outCap.toNat

/-- Both memories are in canonical form. -/
def MemoryInv (s : State) : Prop := Memory.wf s.imem = true ∧ Memory.wf s.omem = true

/-- Invariant 7 of 10_state R39 and R34: there is an error code exactly in `S_ERROR`. -/
def ErrInv (s : State) : Prop := s.err.isSome = true ↔ s.fsm = .error

/-- The sizes of the current block's tables (10_state R26). -/
def SizesInv (s : State) : Prop :=
  257 ≤ s.nLl.toNat ∧ s.nLl.toNat ≤ 288 ∧ 1 ≤ s.nD.toNat ∧ s.nD.toNat ≤ 32

/-- Invariants 5 and 6 of 10_state R39, and what holds when the last length has been stored. -/
def TablesInv (s : State) : Prop :=
  (s.fsm = .dynLengths → SizesInv s ∧ s.total.toNat = s.nLl.toNat + s.nD.toNat ∧ s.idx.toNat < s.total.toNat ∧
    buildTrie s.clLengths Config.MAXBITS_CL = some s.clTrie) ∧
  (s.fsm = .dynBuild → SizesInv s ∧ s.total.toNat = s.nLl.toNat + s.nD.toNat ∧ s.idx = s.total) ∧
  (s.fsm = .symbol → SizesInv s ∧ buildTrie s.llLengths Config.MAXBITS = some s.llTrie ∧
    buildTrie s.dLengths Config.MAXBITS = some s.dTrie)

/-- No match is half executed between two steps (10_state R44, log 4). -/
def MatchInv (s : State) : Prop := s.matchLen = 0

/-- The width is one the parameter `AW` may have (00_scope R5). -/
def WidthInv (s : State) : Prop := Config.AW_MIN ≤ s.aw

/-- Everything that holds between two steps of a run and at its end (10_state R39). -/
def EngineInv (s : State) : Prop :=
  WidthInv s ∧ CursorInv s ∧ OutputInv s ∧ MemoryInv s ∧ ErrInv s ∧ TablesInv s ∧ MatchInv s

/-- Everything that holds at any time, whatever the host does between runs: outside a run the host may change `IN_LEN`,
`OUT_CAP` and IMEM, so the cursor and `out_pos` are bounded only while BUSY. -/
def SystemInv (s : State) : Prop :=
  WidthInv s ∧ MemoryInv s ∧ ErrInv s ∧ TablesInv s ∧ MatchInv s ∧ (s.busy = true → CursorInv s ∧ OutputInv s)

/-- A safe step: no access outside the domains of 00_scope R8 and 43 R227 (20_memory R67). -/
def SafeStep (s : State) : Prop := ∀ f, step s ≠ .fault f

/-- What an engine of any width and its host can reach from reset, the host acting between any two steps (45_host_interface R250). -/
inductive Reachable : State → Prop where
  | reset (aw : Nat) : Config.AW_MIN ≤ aw → Reachable (State.resetAt aw)
  | step (s t : State) : Reachable s → step s = .next t → Reachable t
  | host (s t : State) (op : HostOp) : Reachable s → hostStep op s = .next t → Reachable t

/-- `n` steps of the engine, for claims about whole runs. -/
def stepN : Nat → State → Result
  | 0, s => .next s
  | n + 1, s => andThen (step s) (stepN n)

/-- The outcome with its next state changed, for comparing two runs. -/
def mapNext (f : State → State) (r : Result) : Result := andThen r fun s => .next (f s)

/-- Two states have their cursor at the same place, the widths of their engines aside. -/
def SameCursor (s t : State) : Prop :=
  t.cur.inPos.toNat = s.cur.inPos.toNat ∧ t.cur.bitbuf = s.cur.bitbuf ∧ t.cur.bitcnt = s.cur.bitcnt

/-- Two memories hold the same bytes below an address. -/
def SameBelow (n : Nat) (m m' : Memory) : Prop := ∀ a, a < n → Memory.read m a = Memory.read m' a

/-- The `n` stream bits from bit `p`, summed with the weight each order gives them (40_bitreader R131, 20_memory R61). -/
def fieldValue (imem : Memory) (p n : Nat) (order : Order) : Nat :=
  ((List.range n).map fun i =>
    (streamBit imem (p + i)).toNat * 2 ^ (match order with | .lsb => i | .msb => n - 1 - i)).sum

/-- The stream bits not yet consumed, in stream order (10_state R22, 20_memory R61). -/
def State.remaining (s : State) : List Bool :=
  (List.range (8 * s.inLen.toNat - s.cur.bitIndex)).map fun j => streamBit s.imem (s.cur.bitIndex + j)

/-- The cursor after a read that ran out of input (40_bitreader R135). -/
def State.atEndOfInput (s : State) : State := { s with cur := { inPos := s.inLen, bitbuf := 0, bitcnt := 0 } }

/-- No length of a table is above the longest its alphabet has (41_huffman_table_builder R150). -/
def LengthsFit (L : List Nat) (maxbits : Nat) : Prop := ∀ l ∈ L, l ≤ maxbits

/-- The space the codes of a table take, in codes of the longest length (41_huffman_table_builder R152). -/
def kraftSum (L : List Nat) (maxbits : Nat) : Nat := ((L.filter (· ≠ 0)).map fun l => 2 ^ (maxbits - l)).sum

/-- A table that `Build` accepts, of at most `n` symbols. -/
def TableFits (L : List Nat) (n maxbits : Nat) : Prop :=
  L.length ≤ n ∧ LengthsFit L maxbits ∧ overSubscribed L maxbits = false

/-- The tables of a context are tables the engine can hold and accepts. -/
def CtxFits : Ctx → Prop
  | .header => True
  | .stored => True
  | .dynHeader => True
  | .codeLen L _ => TableFits L Config.N_CL Config.MAXBITS_CL
  | .litLen L => TableFits L Config.CAP_LL Config.MAXBITS
  | .distance L => TableFits L Config.CAP_D Config.MAXBITS

/-- Entry `j` of `lens`. -/
def State.lenAt (s : State) (j : Nat) : BitVec 4 := s.lens.toList.getD j 0

/-- `t` is `s` after `rep` entries of value `v` were stored from `idx` (43 R221): those entries, `idx`, the next control state,
nothing else. -/
def RunStored (rep : Nat) (v : BitVec 4) (s t : State) : Prop :=
  t = { s with lens := t.lens, idx := t.idx, fsm := if t.idx = s.total then .dynBuild else .dynLengths } ∧
  t.idx.toNat = s.idx.toNat + rep ∧
  ∀ j, t.lenAt j = if s.idx.toNat ≤ j ∧ j < s.idx.toNat + rep then v else s.lenAt j

end Sys2Proof.Machine
end

