-- ==== Sys2Proof/Certificates/Slice0/Obligations.lean ====
section
/-! DEFINITION. The statements for the provers, from the numbered rules of spec/. Each docstring names the rule or section, and
the log entry where a clause rests on a choice of the model. The state that `exec` is given is the one after the element has been
read. -/

open Sys2Proof Sys2Proof.Machine

/-! ### BitReader -/

/-- 40_bitreader R131, R135: a read returns the stream bits at the cursor, weighted by its order, and moves the cursor past them;
one that needs more bits than there are ends at the end of the input. It writes the cursor only. That a read takes any count,
beyond the 16 of R133, is log 19. -/
def Obligations.ReadBitsReadsTheStream : Prop :=
  ∀ (s : State) (n : Nat) (o : Order), CursorInv s →
    (s.cur.bitIndex + n ≤ 8 * s.inLen.toNat →
      ∃ c, readBits stateSource n o s = .ok (fieldValue s.imem s.cur.bitIndex n o) { s with cur := c } ∧
        CursorInv { s with cur := c } ∧ c.bitIndex = s.cur.bitIndex + n) ∧
    (8 * s.inLen.toNat < s.cur.bitIndex + n →
      readBits stateSource n o s = .err .unexpectedEndOfInput s.atEndOfInput)

/-- 40_bitreader R134: the residual bits are dropped, `in_pos` stays, the cursor stands at the least multiple of 8 not below
where it stood, nothing changes at a boundary, and the next bit read is bit 0 of the byte at `in_pos`. -/
def Obligations.AlignDropsTheResidualBits : Prop :=
  ∀ s : State, CursorInv s →
    stateSource.align s = { s with cur := { inPos := s.cur.inPos, bitbuf := 0, bitcnt := 0 } } ∧
    CursorInv (stateSource.align s) ∧
    (stateSource.align s).cur.bitIndex = 8 * ((s.cur.bitIndex + 7) / 8) ∧
    (s.cur.bitcnt = 0 → stateSource.align s = s) ∧
    (s.cur.inPos.toNat < s.inLen.toNat →
      ∃ t, stateSource.next (stateSource.align s) = some ((Memory.read s.imem s.cur.inPos.toNat).getLsbD 0, t) ∧
        t.cur.inPos.toNat = s.cur.inPos.toNat + 1)

/-! ### HuffmanTableBuilder and Decode -/

/-- 41 R152: the check fails exactly when the sum of `2^(maxbits - L[i])` over the used symbols exceeds `2^maxbits`. -/
def Obligations.OverSubscriptionIsTheKraftSum : Prop :=
  ∀ (L : List Nat) (m : Nat), LengthsFit L m → (overSubscribed L m = true ↔ 2 ^ m < kraftSum L m)

/-- 41 R153: the recurrence of the start codes over the numbers of symbols of each length, and their bounds once the check of
R152 has passed. -/
def Obligations.StartCodesFollowTheRecurrence : Prop :=
  ∀ (L : List Nat) (m : Nat), LengthsFit L m →
    (startCodes L m).getD 0 0 = 0 ∧
    (∀ l, 1 ≤ l → l ≤ m →
      (startCodes L m).getD l 0 =
        ((startCodes L m).getD (l - 1) 0 + (if l - 1 = 0 then 0 else L.count (l - 1))) <<< 1) ∧
    (overSubscribed L m = false → ∀ l, 1 ≤ l → l ≤ m →
      (startCodes L m).getD l 0 + L.count l ≤ 2 ^ l ∧ (m ≤ 15 → (startCodes L m).getD l 0 < 2 ^ 16))

/-- 41 R154: every used symbol has one code, of its length, and the value of the closed form; the codes stand in increasing order
of their symbols. -/
def Obligations.CodesHaveTheClosedForm : Prop :=
  ∀ (L : List Nat) (m : Nat), LengthsFit L m →
    (codes L m).Pairwise (fun c d => c.sym < d.sym) ∧
    ∀ c, c ∈ codes L m ↔
      L[c.sym]? = some c.len ∧ c.len ≠ 0 ∧ c.code = (startCodes L m).getD c.len 0 + (L.take c.sym).count c.len

/-- 41 R155: the codes of an accepted table fit their lengths, no code is a prefix of another, codes of one length rise with the
symbol, and a shorter code is below a longer one when both are left-aligned. -/
def Obligations.CodesArePrefixFreeAndOrdered : Prop :=
  ∀ (L : List Nat) (m : Nat), LengthsFit L m → overSubscribed L m = false →
    ∀ c ∈ codes L m, c.code < 2 ^ c.len ∧
      ∀ d ∈ codes L m,
        (c.bits <+: d.bits → c = d) ∧
        (c.len = d.len → c.sym < d.sym → c.code < d.code) ∧
        (c.len < d.len → c.code * 2 ^ (m - c.len) < d.code * 2 ^ (m - d.len))

/-- 41 R160: the bits of a code word, whatever follows them, decode to its symbol, and exactly they are consumed. -/
def Obligations.DecodeReadsBackEveryCode : Prop :=
  ∀ (L : List Nat) (m : Nat) (c : Code) (rest : List Bool), LengthsFit L m → overSubscribed L m = false →
    c ∈ codes L m → decodeSymbol listSource L m (c.bits ++ rest) = .ok c.sym rest

/-- 41 R161: the fault comes after the first bit that makes the bits read a prefix of no code, that bit consumed; with an empty
table before any bit is read; and an input that ends inside a code word ends the read instead. -/
def Obligations.DecodeStopsAtTheFirstDeadEnd : Prop :=
  ∀ (L : List Nat) (m : Nat), LengthsFit L m → overSubscribed L m = false →
    (∀ (c : Code) (p rest : List Bool) (b : Bool), c ∈ codes L m → p <+: c.bits → p ≠ c.bits →
      ((∀ d ∈ codes L m, ¬ (p ++ [b]) <+: d.bits) →
        decodeSymbol listSource L m (p ++ b :: rest) = .err .incompleteHuffmanTable rest) ∧
      decodeSymbol listSource L m p = .err .unexpectedEndOfInput []) ∧
    ((∀ l ∈ L, l = 0) → ∀ s : List Bool, decodeSymbol listSource L m s = .err .incompleteHuffmanTable s)

/-- 41 R162: the trie that `Build` makes decodes like the codes do, over any source of bits: the same symbol or the same fault,
with the source left at the same place. -/
def Obligations.TrieDecodesLikeTheCodes : Prop :=
  ∀ (σ : Type) (src : Source σ) (L : List Nat) (m : Nat) (t : Trie) (s : σ), m ≤ 15 → L.length ≤ 288 → LengthsFit L m →
    buildTrie L m = some t → Trie.decode src t s = decodeSymbol src L m s

/-- 41 R157: a table with `k` used symbols takes `2 k - 1` nodes, so each table fits the arena 00_scope R5 gives it. -/
def Obligations.TriesFitTheirArenas : Prop :=
  ∀ (L : List Nat) (m : Nat) (t : Trie), m ≤ 15 → L.length ≤ 288 → LengthsFit L m → buildTrie L m = some t →
    t.used = 2 * (L.countP (· ≠ 0)) - 1 ∧ (1 ≤ L.length → t.used ≤ 2 * L.length - 1)

/-- 30_encoding R101: the fixed codes, and no bit sequence leads to a dead end in a fixed table. The fixed lengths are the spec's
from general knowledge (log 18). -/
def Obligations.FixedCodesAreCompleteAndAsListed : Prop :=
  (∀ s, s < 288 → (codes fixedLl 15).find? (fun c => c.sym == s) =
    some (if s < 144 then ⟨s, 8, 48 + s⟩ else if s < 256 then ⟨s, 9, 400 + (s - 144)⟩
      else if s < 280 then ⟨s, 7, s - 256⟩ else ⟨s, 8, 192 + (s - 280)⟩)) ∧
  (∀ d, d < 32 → (codes fixedD 15).find? (fun c => c.sym == d) = some ⟨d, 5, d⟩) ∧
  ∀ (σ : Type) (src : Source σ) (s t : σ),
    decodeSymbol src fixedLl 15 s ≠ .err .incompleteHuffmanTable t ∧
    decodeSymbol src fixedD 15 s ≠ .err .incompleteHuffmanTable t

/-- 42 R192: the classification by ranges gives the same symbols as the fixed table, and a fixed distance symbol is 5 bits, most
significant first. -/
def Obligations.FixedTableAgreesWithTheClassification : Prop :=
  ∀ (σ : Type) (src : Source σ) (s : σ),
    decodeSymbol src fixedLl 15 s = classifyFixedLl src s ∧
    decodeSymbol src fixedD 15 s = readBits src 5 .msb s

/-! ### Encoding -/

/-- 30_encoding R91 to R96: for every context whose tables the engine accepts, decoding the bits of a well-formed element gives the
element back, whatever follows. A stored body may have up to 7 pad bits before it and stands before whole bytes. Symbol 16 with no
length before it has no extra bits (43 R223), so its operand is the 0 of log 5. -/
def Obligations.DecodeAfterEncode : Prop :=
  ∀ (ctx : Ctx) (i : Instr) (pad bits rest : List Bool), CtxFits ctx → i.wf = true →
    (∀ L e, ctx = .codeLen L true → i = .clRepPrev e → e = 0) →
    (ctx = .stored → pad.length < 8 ∧ rest.length % 8 = 0) → (ctx ≠ .stored → pad = []) →
    encode ctx i = some bits → decodeElement listSource ctx (pad ++ (bits ++ rest)) = .ok i rest

/-- 30_encoding R91 to R98: what the decoder consumes is the encoding of what it answers, after the pad of a stored body, and it
answers well-formed elements only. -/
def Obligations.EncodeAfterDecode : Prop :=
  ∀ (ctx : Ctx) (i : Instr) (l rest : List Bool), CtxFits ctx → decodeElement listSource ctx l = .ok i rest →
    i.wf = true ∧ ∃ pad bits, encode ctx i = some bits ∧ l = pad ++ (bits ++ rest) ∧ pad.length < 8 ∧
      (ctx ≠ .stored → pad = [])

/-- 30_encoding R91 to R96, 42 R202 to R204: words written out bit by bit from the spec's encodings, one or more for each format. How the word of
an opcode-table row is numbered and which context it is read in, for the last clause, is log 12. -/
def Obligations.WrittenWordsDecode : Prop :=
  decodeElement listSource .header [true, true, false] = .ok (.blockFixed 1) [] ∧
  decodeElement listSource .header [false, false, true] = .ok (.blockDynamic 0) [] ∧
  decodeElement listSource .stored (bitsOfBytes [0x05, 0x00, 0xfa, 0xff, 0x48]) = .ok (.storedBody 5 0xfffa) (bitsOfBytes [0x48]) ∧
  decodeElement listSource .dynHeader
    [true, false, false, false, false, false, true, false, false, false, false, false, false, false,
     true, false, false, false, true, false, false, false, true, true, true, true] =
    .ok (.dynhdr 1 2 0 [1, 2, 4, 7]) [] ∧
  decodeElement listSource (.codeLen [0, 2, 0, 0, 0, 0, 0, 0, 0, 0, 0, 0, 0, 0, 0, 0, 0, 2, 1] false)
    [false, false, true, true, false, true, false, true] = .ok (.clRepZ11 86) [] ∧
  decodeElement listSource (.litLen fixedLl) [false, true, true, true, false, false, false, true] = .ok .lit41 [] ∧
  decodeElement listSource (.litLen fixedLl) [false, false, false, false, false, false, false] = .ok .eob [] ∧
  decodeElement listSource (.litLen fixedLl) [false, false, false, false, true, false, false] = .ok .len260 [] ∧
  decodeElement listSource (.distance fixedD) [false, false, false, true, false] = .ok .dist2 [] ∧
  decodeTableWord 8 0x71 = some .lit41

/-- 30_encoding R112: the two elements of `MATCH len dist` give that length and that distance, by the symbols with the greatest
`LEN_BASE` and `DST_BASE` not above them, symbol 285 for length 258. -/
def Obligations.MatchNotationStandsForItsMatch : Prop :=
  ∀ len dist, 3 ≤ len → len ≤ 258 → 1 ≤ dist → dist ≤ 32768 →
    ∃ y e d x, (matchElements len dist).1.head = .ll y e ∧ (matchElements len dist).2.head = .dist d x ∧
      257 ≤ y ∧ y ≤ 285 ∧ e < 2 ^ llExtraBits y ∧ matchLength y e = len ∧
      (∀ k, k < 29 → lenBase.getD k 0 ≤ len → lenBase.getD k 0 ≤ lenBase.getD (y - 257) 0) ∧ (len = 258 → y = 285) ∧
      d ≤ 29 ∧ x < 2 ^ distExtraBits d ∧ matchDistance d x = dist ∧
      (∀ k, k < 30 → dstBase.getD k 0 ≤ dist → dstBase.getD k 0 ≤ dstBase.getD d 0)

/-- 30_encoding R97: `CL_ORDER` is the listed order, a permutation of 0 to 18. -/
def Obligations.ClOrderIsThePermutation : Prop :=
  clOrder = [16, 17, 18, 0, 8, 7, 9, 6, 10, 5, 11, 4, 12, 3, 13, 2, 14, 1, 15] ∧ clOrder.Perm (List.range 19)

/-- 30_encoding R104, R106: the ranges of match lengths and distances, the two encodings of length 258, and no bit is consumed for
an extra field of no bits. -/
def Obligations.MatchRanges : Prop :=
  (∀ y e, 257 ≤ y → y ≤ 285 → e < 2 ^ llExtraBits y →
    matchLength y e = lenBase.getD (y - 257) 0 + e ∧ llExtraBits y = lenExtra.getD (y - 257) 0 ∧
    3 ≤ matchLength y e ∧ matchLength y e ≤ 258) ∧
  matchLength 285 0 = 258 ∧ llExtraBits 285 = 0 ∧ matchLength 284 31 = 258 ∧ 31 < 2 ^ llExtraBits 284 ∧
  (∀ d x, d ≤ 29 → x < 2 ^ distExtraBits d →
    matchDistance d x = dstBase.getD d 0 + x ∧ distExtraBits d = dstExtra.getD d 0 ∧ distExtraBits d ≤ 13 ∧
    1 ≤ matchDistance d x ∧ matchDistance d x ≤ 32768) ∧
  ∀ (σ : Type) (src : Source σ) (o : Order) (s : σ), readBits src 0 o s = .ok 0 s

/-! ### The step -/

/-- 42 R180: what each busy state reads is what it executes; a fault met while reading is taken with the cursor as it then stands
(60 R275). In `S_SYMBOL` a length element is followed in the same step by the distance element of its match (42 R204, log 4). -/
def Obligations.StepRunsTheDecodedElement : Prop :=
  ∀ (s t : State) (i : Instr) (e : ErrKind),
    (s.fsm = .header → (fetch .header s = .ok i t → step s = exec i t) ∧
      (fetch .header s = .err e t → step s = .next (t.raise e))) ∧
    (s.fsm = .stored → (fetch .stored s = .ok i t → step s = exec i t) ∧
      (fetch .stored s = .err e t → step s = .next (t.raise e))) ∧
    (s.fsm = .dynHeader → (fetch .dynHeader s = .ok i t → step s = exec i t) ∧
      (fetch .dynHeader s = .err e t → step s = .next (t.raise e))) ∧
    (s.fsm = .dynLengths → (fetch (codeLenCtx s) s = .ok i t → step s = exec i t) ∧
      (fetch (codeLenCtx s) s = .err e t → step s = .next (t.raise e))) ∧
    (s.fsm = .symbol → s.matchLen = 0 → (fetch (.litLen s.llLengths) s = .err e t → step s = .next (t.raise e)) ∧
      (fetch (.litLen s.llLengths) s = .ok i t → ∀ u, exec i t = .next u →
        (u.matchLen = 0 → step s = .next u) ∧
        (u.matchLen ≠ 0 → ∀ (v : State) (j : Instr) (f : ErrKind),
          (fetch (.distance u.dLengths) u = .ok j v → step s = exec j v) ∧
          (fetch (.distance u.dLengths) u = .err f v → step s = .next (v.raise f)))))

/-- 40 R130, 42 R182, R194: reading an element, to its end or to a fault, writes the cursor, and only a header element the registers
it latches (log 6). What it answers is well formed. -/
def Obligations.FetchWritesTheCursor : Prop :=
  ∀ (ctx : Ctx) (s t : State),
    (∀ i, fetch ctx s = .ok i t → i.wf = true) ∧
    ((∃ i, fetch ctx s = .ok i t) ∨ (∃ e, fetch ctx s = .err e t) →
      (∃ c, t = { s with cur := c, bfinal := t.bfinal, nLl := t.nLl, nD := t.nD, nCl := t.nCl, clLen := t.clLen }) ∧
      (ctx ≠ .header → t.bfinal = s.bfinal) ∧
      (ctx ≠ .dynHeader → t.nLl = s.nLl ∧ t.nD = s.nD ∧ t.nCl = s.nCl ∧ t.clLen = s.clLen))

/-- 10_state R22, 20_memory R61, 40 R131: what is fetched at the cursor is what the decoder reads from the list of the stream bits not
yet consumed, a fault included, and the cursor moves by the bits it consumes. -/
def Obligations.FetchDecodesTheRemainingInput : Prop :=
  ∀ (ctx : Ctx) (s : State), CursorInv s →
    (∀ i t, fetch ctx s = .ok i t → CursorInv t ∧ decodeElement listSource ctx s.remaining = .ok i t.remaining) ∧
    (∀ e t, fetch ctx s = .err e t → CursorInv t ∧ decodeElement listSource ctx s.remaining = .err e t.remaining)

/-- 42 R182, R183: step `S_HEADER` from any bit position of the input. A read that runs out of input keeps `bfinal` once its bit
has been read (log 6). -/
def Obligations.HeaderStep : Prop :=
  ∀ s : State, s.fsm = .header → CursorInv s →
    let p := s.cur.bitIndex
    let f := BitVec.ofNat 1 (fieldValue s.imem p 1 .lsb)
    let ty := BitVec.ofNat 2 (fieldValue s.imem (p + 1) 2 .lsb)
    (p + 3 ≤ 8 * s.inLen.toNat →
      ∃ c, c.bitIndex = p + 3 ∧ CursorInv { s with cur := c } ∧
        (ty = 0 → step s = .next { s with cur := c, bfinal := f, btype := ty, fsm := .stored }) ∧
        (ty = 1 → step s = .next { s with cur := c, bfinal := f, btype := ty, fsm := .fixed }) ∧
        (ty = 2 → step s = .next { s with cur := c, bfinal := f, btype := ty, fsm := .dynHeader }) ∧
        (ty = 3 → step s = .next (State.raise { s with cur := c, bfinal := f, btype := ty } .invalidBlockType))) ∧
    (8 * s.inLen.toNat < p + 1 → step s = .next (s.atEndOfInput.raise .unexpectedEndOfInput)) ∧
    (p + 1 ≤ 8 * s.inLen.toNat → 8 * s.inLen.toNat < p + 3 →
      step s = .next (State.raise { s.atEndOfInput with bfinal := f } .unexpectedEndOfInput))

/-- 42 R182, R183: the four headers write `bfinal`, `btype` and the next control state; the reserved one takes `InvalidBlockType`. -/
def Obligations.HeadersExecute : Prop :=
  ∀ (f : BitVec 1) (s : State),
    exec (.blockStored f) s = .next { s with bfinal := f, btype := 0, fsm := .stored } ∧
    exec (.blockFixed f) s = .next { s with bfinal := f, btype := 1, fsm := .fixed } ∧
    exec (.blockDynamic f) s = .next { s with bfinal := f, btype := 2, fsm := .dynHeader } ∧
    exec (.blockReserved f) s = .next (State.raise { s with bfinal := f, btype := 3 } .invalidBlockType)

/-- 20_memory R62, 40 R134: `LEN` and `NLEN` are read after the pad, the byte at the lower address in bits 7..0. -/
def Obligations.StoredFieldsAreLittleEndian : Prop :=
  ∀ s : State, CursorInv s →
    let a := s.cur.inPos.toNat
    (a + 4 ≤ s.inLen.toNat →
      fetch .stored s = .ok
        (.storedBody (Memory.read s.imem (a + 1) ++ Memory.read s.imem a)
          (Memory.read s.imem (a + 3) ++ Memory.read s.imem (a + 2)))
        { s with cur := { inPos := s.cur.inPos + 4, bitbuf := 0, bitcnt := 0 } }) ∧
    (s.inLen.toNat < a + 4 → fetch .stored s = .err .unexpectedEndOfInput s.atEndOfInput)

/-- 42 R185, R186, R187: the three faults of a stored body in their order, each with nothing written; otherwise the payload is
copied byte by byte from IMEM to OMEM and the block ends. Everything else is unchanged. -/
def Obligations.StoredBodyCopiesItsPayload : Prop :=
  ∀ (len nlen : BitVec 16) (s : State),
    (nlen ≠ len ^^^ 0xFFFF#16 → exec (.storedBody len nlen) s = .next (s.raise .storedLengthMismatch)) ∧
    (nlen = len ^^^ 0xFFFF#16 → s.inLen.toNat - s.cur.inPos.toNat < len.toNat →
      exec (.storedBody len nlen) s = .next (s.raise .unexpectedEndOfInput)) ∧
    (nlen = len ^^^ 0xFFFF#16 → len.toNat ≤ s.inLen.toNat - s.cur.inPos.toNat → s.outCap.toNat - s.outPos.toNat < len.toNat →
      exec (.storedBody len nlen) s = .next (s.raise .outputBufferExhausted)) ∧
    (nlen = len ^^^ 0xFFFF#16 → len.toNat ≤ s.inLen.toNat - s.cur.inPos.toNat → len.toNat ≤ s.outCap.toNat - s.outPos.toNat →
      ∃ m, exec (.storedBody len nlen) s = .next
          { s with omem := m, outPos := s.outPos + BitVec.ofNat s.aw len.toNat,
                   cur := { s.cur with inPos := s.cur.inPos + BitVec.ofNat s.aw len.toNat },
                   fsm := if s.bfinal = 1 then .done else .header } ∧
        (∀ k, k < len.toNat → Memory.read m (s.outPos.toNat + k) = Memory.read s.imem (s.cur.inPos.toNat + k)) ∧
        ∀ a, a < s.outPos.toNat ∨ s.outPos.toNat + len.toNat ≤ a → Memory.read m a = Memory.read s.omem a)

/-- 42 R194, 30 R93, R97: a dynamic header sets the sizes from its fields, `cl_len` to its lengths in `CL_ORDER` and zero elsewhere,
builds the code-length trie and starts the run decoder; an over-subscribed table is a fault with those registers written. -/
def Obligations.DynamicHeaderSetsUpTheLengths : Prop :=
  ∀ (hlit hdist : BitVec 5) (hclen : BitVec 4) (cll : List (BitVec 3)) (s : State),
    ∃ u : State,
      u = { s with nLl := u.nLl, nD := u.nD, nCl := u.nCl, clLen := u.clLen } ∧
      u.nLl.toNat = hlit.toNat + 257 ∧ u.nD.toNat = hdist.toNat + 1 ∧ u.nCl.toNat = hclen.toNat + 4 ∧
      (∀ j, j < 19 → u.clLen.toList.getD (clOrder.getD j 0) 0 = cll.getD j 0) ∧
      (overSubscribed u.clLengths 7 = true →
        exec (.dynhdr hlit hdist hclen cll) s = .next (u.raise .overSubscribedHuffmanTable)) ∧
      (overSubscribed u.clLengths 7 = false →
        ∃ trie total, buildTrie u.clLengths 7 = some trie ∧ total.toNat = hlit.toNat + 257 + (hdist.toNat + 1) ∧
          exec (.dynhdr hlit hdist hclen cll) s =
            .next { u with clTrie := trie, idx := 0, total := total, fsm := .dynLengths })

/-- 42 R191, 30 R100: the fixed block's set-up never faults and leaves the fixed lengths and their tries. -/
def Obligations.FixedSetupStep : Prop :=
  ∀ s : State, s.fsm = .fixed →
    ∃ t a b, step s = .next t ∧
      t = { s with nLl := 288, nD := 32, lens := t.lens, llTrie := a, dTrie := b, fsm := .symbol } ∧
      t.llLengths = fixedLl ∧ t.dLengths = fixedD ∧
      buildTrie fixedLl 15 = some a ∧ buildTrie fixedD 15 = some b

/-- 42 R197: the dynamic block's set-up builds the literal/length trie, then the distance trie; each over-subscribed table is a fault
with its own trie not written. -/
def Obligations.DynamicBuildStep : Prop :=
  ∀ s : State, s.fsm = .dynBuild →
    (overSubscribed s.llLengths 15 = true → step s = .next (s.raise .overSubscribedHuffmanTable)) ∧
    (overSubscribed s.llLengths 15 = false →
      ∃ a, buildTrie s.llLengths 15 = some a ∧
        (overSubscribed s.dLengths 15 = true →
          step s = .next (State.raise { s with llTrie := a } .overSubscribedHuffmanTable)) ∧
        (overSubscribed s.dLengths 15 = false →
          ∃ b, buildTrie s.dLengths 15 = some b ∧ step s = .next { s with llTrie := a, dTrie := b, fsm := .symbol }))

/-! ### Code-length symbols -/

/-- 43 R222: CL_0 to CL_15, which have no extra bits, store their length and advance one entry, which is inside the table. -/
def Obligations.CodeLengthIsStored : Prop :=
  ∀ (i : Instr) (c e : Nat), i.head = .cl c e → c ≤ 15 →
    clExtraBits c = 0 ∧
    ∀ s : State, s.idx.toNat < s.total.toNat → s.total.toNat ≤ 320 →
      s.idx.toNat + 1 ≤ s.total.toNat ∧ ∃ t, exec i s = .next t ∧ RunStored 1 (BitVec.ofNat 4 c) s t

/-- 43 R223: CL_REP_PREV repeats the entry before `idx`, 3 to 6 times; with no entry before it the fault is raised as soon as the
symbol is decoded, its extra bits not read. -/
def Obligations.RepeatPreviousLength : Prop :=
  (∀ (e : BitVec 2) (s : State), s.idx ≠ 0 → 3 + e.toNat ≤ s.total.toNat - s.idx.toNat → s.total.toNat ≤ 320 →
    3 + e.toNat ≤ 6 ∧
    ∃ t, exec (.clRepPrev e) s = .next t ∧ RunStored (3 + e.toNat) (s.lenAt (s.idx.toNat - 1)) s t) ∧
  (∀ (e : BitVec 2) (s : State), s.idx = 0 → exec (.clRepPrev e) s = .next (s.raise .malformedCodeLengthRun)) ∧
  (∀ s t : State, s.fsm = .dynLengths → s.idx = 0 → decodeSymbol stateSource s.clLengths 7 s = .ok 16 t →
    step s = .next (t.raise .malformedCodeLengthRun)) ∧
  (∀ (s t u : State) (v : Nat), s.fsm = .dynLengths → s.idx ≠ 0 → decodeSymbol stateSource s.clLengths 7 s = .ok 16 t →
    readBits stateSource 2 .lsb t = .ok v u → step s = exec (.clRepPrev (BitVec.ofNat 2 v)) u)

/-- 43 R224, R225: CL_REP_Z3 stores 3 to 10 zeros, CL_REP_Z11 stores 11 to 138, also at `idx = 0`. -/
def Obligations.RepeatZeroLengths : Prop :=
  ∀ (e : BitVec 3) (g : BitVec 7) (s : State), s.total.toNat ≤ 320 →
    3 + e.toNat ≤ 10 ∧ 11 + g.toNat ≤ 138 ∧
    (3 + e.toNat ≤ s.total.toNat - s.idx.toNat →
      ∃ t, exec (.clRepZ3 e) s = .next t ∧ RunStored (3 + e.toNat) 0 s t) ∧
    (11 + g.toNat ≤ s.total.toNat - s.idx.toNat →
      ∃ t, exec (.clRepZ11 g) s = .next t ∧ RunStored (11 + g.toNat) 0 s t)

/-- 43 R226: a run longer than the entries left is a fault before any entry is written, and one that ends exactly at `total` ends the
sequence: the set-up step follows and consumes no bit. -/
def Obligations.RunOverflowFaults : Prop :=
  ∀ s : State,
    (∀ e : BitVec 2, s.total.toNat - s.idx.toNat < 3 + e.toNat →
      exec (.clRepPrev e) s = .next (s.raise .malformedCodeLengthRun)) ∧
    (∀ e : BitVec 3, s.total.toNat - s.idx.toNat < 3 + e.toNat →
      exec (.clRepZ3 e) s = .next (s.raise .malformedCodeLengthRun)) ∧
    (∀ e : BitVec 7, s.total.toNat - s.idx.toNat < 11 + e.toNat →
      exec (.clRepZ11 e) s = .next (s.raise .malformedCodeLengthRun)) ∧
    (∀ (i : Instr) (c e rep : Nat), i.head = .cl c e → s.idx ≠ 0 → s.total.toNat ≤ 320 →
      rep = (if c ≤ 15 then 1 else if c = 18 then 11 + e else 3 + e) → rep = s.total.toNat - s.idx.toNat →
      ∃ t, exec i s = .next t ∧ t.fsm = .dynBuild ∧ t.idx = s.total ∧ SameCursor s t ∧
        ∀ u, step t = .next u → SameCursor t u)

/-! ### Literal/length and distance symbols -/

/-- 42 R202: LIT_00 to LIT_FF. The byte is appended and nothing else changes; with no room the fault is raised and no byte is
written. -/
def Obligations.LiteralIsAppended : Prop :=
  ∀ (i : Instr) (b e : Nat), i.head = .ll b e → b ≤ 255 → ∀ s : State,
    (s.outCap.toNat ≤ s.outPos.toNat → exec i s = .next (s.raise .outputBufferExhausted)) ∧
    (s.outPos.toNat < s.outCap.toNat →
      ∃ m, exec i s = .next { s with omem := m, outPos := s.outPos + 1, fsm := .symbol } ∧
        Memory.read m s.outPos.toNat = BitVec.ofNat 8 b ∧
        ∀ a, a ≠ s.outPos.toNat → Memory.read m a = Memory.read s.omem a)

/-- 42 R203: EOB. It writes nothing else, and the cursor is not aligned. -/
def Obligations.EndOfBlockChoosesTheNextState : Prop :=
  ∀ s : State,
    (s.bfinal = 1 → exec .eob s = .next { s with fsm := .done }) ∧
    (s.bfinal ≠ 1 → exec .eob s = .next { s with fsm := .header })

/-- 42 R204, 30 R104: LEN_257 to LEN_285. The length half holds its match length, 3 to 258, for the distance half. That it is held
in a register between the two calls of one step is the model's choice (log 4). -/
def Obligations.LengthHalfHoldsTheLength : Prop :=
  ∀ (i : Instr) (y e : Nat), i.head = .ll y e → 257 ≤ y → y ≤ 285 → ∀ s : State,
    ∃ n : BitVec 9, exec i s = .next { s with matchLen := n } ∧ n.toNat = lenBase.getD (y - 257) 0 + e ∧
      3 ≤ n.toNat ∧ n.toNat ≤ 258

/-- 42 R204, R240, R241: DIST_0 to DIST_29. The two faults in their order, each with nothing written; otherwise byte `k` of the copy
is the byte `distance` behind it, which is the pattern of the last `distance` bytes repeated, and nothing else changes. The
length is the one the length half holds (log 4). -/
def Obligations.DistanceHalfCopiesTheMatch : Prop :=
  ∀ (i : Instr) (d x : Nat), i.head = .dist d x → d ≤ 29 → ∀ s : State,
    let dist := dstBase.getD d 0 + x
    let len := s.matchLen.toNat
    (s.outPos.toNat < dist → exec i s = .next (s.raise .backReferenceOutOfRange)) ∧
    (dist ≤ s.outPos.toNat → s.outCap.toNat - s.outPos.toNat < len → exec i s = .next (s.raise .outputBufferExhausted)) ∧
    (dist ≤ s.outPos.toNat → len ≤ s.outCap.toNat - s.outPos.toNat →
      ∃ m, exec i s = .next
          { s with omem := m, outPos := s.outPos + BitVec.ofNat s.aw len, matchLen := 0, fsm := .symbol } ∧
        (∀ k, k < len → Memory.read m (s.outPos.toNat + k) = Memory.read s.omem (s.outPos.toNat - dist + k % dist)) ∧
        ∀ a, a < s.outPos.toNat ∨ s.outPos.toNat + len ≤ a → Memory.read m a = Memory.read s.omem a)

/-- 42 R205, R207: LL_RSVD_286, LL_RSVD_287, D_RSVD_30, D_RSVD_31 take `ReservedSymbol`. -/
def Obligations.ReservedSymbolsFault : Prop :=
  ∀ s : State,
    exec .llRsvd286 s = .next (s.raise .reservedSymbol) ∧ exec .llRsvd287 s = .next (s.raise .reservedSymbol) ∧
    exec .dRsvd30 s = .next (s.raise .reservedSymbol) ∧ exec .dRsvd31 s = .next (s.raise .reservedSymbol)

/-- 10_state R22 to R27, 30 R102: what an element may change, by its format, in any state in which it has a next state: the width,
IMEM, the length registers and the built tries of symbols never; the cursor only by a stored body; output only by a stored body, a literal
or a distance; the block registers only by a header; the sizes and `cl_len` only by a dynamic header; `lens` only by a
code-length symbol. -/
def Obligations.ExecFrame : Prop :=
  ∀ (i : Instr) (s t : State), exec i s = .next t →
    t.aw = s.aw ∧ t.imem = s.imem ∧ t.inLen.toNat = s.inLen.toNat ∧ t.outCap.toNat = s.outCap.toNat ∧
    t.llTrie = s.llTrie ∧ t.dTrie = s.dTrie ∧
    t.draws = s.draws ∧ t.platform = s.platform ∧
    ((∀ y f, i.head ≠ .header y f) → t.bfinal = s.bfinal ∧ t.btype = s.btype) ∧
    ((∀ len nlen, i.head ≠ .stored len nlen) → SameCursor s t ∧
      ((∀ b e, i.head = .ll b e → 256 ≤ b) → (∀ d e, i.head = .dist d e → 30 ≤ d) →
        t.omem = s.omem ∧ t.outPos.toNat = s.outPos.toNat)) ∧
    ((∀ hlit hdist hclen cll, i.head ≠ .dyn hlit hdist hclen cll) →
      t.nLl = s.nLl ∧ t.nD = s.nD ∧ t.nCl = s.nCl ∧ t.clLen = s.clLen ∧ t.clTrie = s.clTrie ∧ t.total = s.total ∧
      ((∀ c e, i.head ≠ .cl c e) → t.idx = s.idx)) ∧
    ((∀ c e, i.head ≠ .cl c e) → t.lens = s.lens) ∧
    (t.fsm = .error ∨ t.err = s.err)

/-! ### Faults -/

/-- 60 R275, R292: `raise` writes the error code and the control state and nothing else of the spec's state, and `STATUS` is
`ERROR`. In `S_ERROR`, as in `S_IDLE` and `S_DONE`, a step leaves every field as it is: the engine takes none there, which the
model tells as a step that answers the same state (log 13). (Of the model's own `matchLen`, log 4, nothing is said.) -/
def Obligations.RaiseStopsTheEngine : Prop :=
  (∀ (e : ErrKind) (s : State),
    ∃ t n, raised e s = .next t ∧ t = { s with err := some e, fsm := .error, matchLen := n } ∧
      errValue t.err = errCode e ∧ statusOf t.fsm = 3 ∧ t.error = true ∧ step t = .next t) ∧
  ∀ s : State, s.fsm = .idle ∨ s.fsm = .done ∨ s.fsm = .error → step s = .next s

/-- 60 R270 to R280: each error kind is raised only by the steps the spec names for it, and `IncompleteHuffmanTable` never with the
fixed tables. -/
def Obligations.ErrorKindsComeFromTheirSteps : Prop :=
  ∀ (s t : State) (e : ErrKind), s.err = none → step s = .next t → t.err = some e →
    (e = .invalidBlockType → s.fsm = .header) ∧
    (e = .overSubscribedHuffmanTable → s.fsm = .dynHeader ∨ s.fsm = .dynBuild) ∧
    (e = .incompleteHuffmanTable →
      s.fsm = .dynLengths ∨ (s.fsm = .symbol ∧ ¬ (s.llLengths = fixedLl ∧ s.dLengths = fixedD))) ∧
    (e = .unexpectedEndOfInput →
      s.fsm = .header ∨ s.fsm = .stored ∨ s.fsm = .dynHeader ∨ s.fsm = .dynLengths ∨ s.fsm = .symbol) ∧
    (e = .backReferenceOutOfRange → s.fsm = .symbol) ∧
    (e = .outputBufferExhausted → s.fsm = .stored ∨ s.fsm = .symbol) ∧
    (e = .malformedCodeLengthRun → s.fsm = .dynLengths) ∧
    (e = .storedLengthMismatch → s.fsm = .stored) ∧
    (e = .reservedSymbol → s.fsm = .symbol)

/-- 60 R283: a step that ends in a fault has written no byte of output. -/
def Obligations.FaultingStepWritesNoOutput : Prop :=
  ∀ s t : State, s.fsm ≠ .error → step s = .next t → t.fsm = .error → t.omem = s.omem ∧ t.outPos.toNat = s.outPos.toNat

/-- 60 R270, 10 R33, R34, R37, 45 R254: the code of each kind, and 0 for none; `STATUS` and the status lines as functions of
`fsm`; and with the invariant on `err`, `ERR` is 0 exactly where `STATUS` is not `ERROR`. -/
def Obligations.StatusAndErrorCodes : Prop :=
  errValue none = 0 ∧ errValue (some .invalidBlockType) = 1 ∧ errValue (some .overSubscribedHuffmanTable) = 2 ∧
  errValue (some .incompleteHuffmanTable) = 3 ∧ errValue (some .unexpectedEndOfInput) = 4 ∧
  errValue (some .backReferenceOutOfRange) = 5 ∧ errValue (some .outputBufferExhausted) = 6 ∧
  errValue (some .malformedCodeLengthRun) = 7 ∧ errValue (some .storedLengthMismatch) = 8 ∧
  errValue (some .reservedSymbol) = 9 ∧ (∀ e, errValue (some e) = errCode e) ∧
  ∀ s : State,
    (s.busy = true ↔ ¬ (s.fsm = .idle ∨ s.fsm = .done ∨ s.fsm = .error)) ∧
    (s.done = true ↔ s.fsm = .done) ∧ (s.error = true ↔ s.fsm = .error) ∧
    (statusOf s.fsm = 0 ↔ s.fsm = .idle) ∧ (statusOf s.fsm = 1 ↔ s.busy = true) ∧
    (statusOf s.fsm = 2 ↔ s.done = true) ∧ (statusOf s.fsm = 3 ↔ s.error = true) ∧
    (ErrInv s → (errValue s.err = 0 ↔ s.fsm ≠ .error))

/-! ### Rules of the whole machine -/

/-- 10_state R39: one step keeps the invariants of a run. (The clause on tries is about hidden state, log 7; the one on the match
length about the model's own register, log 4.) -/
def Obligations.StepKeepsTheInvariants : Prop :=
  ∀ s t : State, EngineInv s → step s = .next t → EngineInv t

/-- 10_state R39, R45, R46: the state after reset has the invariants, at every width of at least 17, and START gives a run that has
them. (They hold a clause on the model's own match length, log 4, and one on the hidden tries, log 7.) -/
def Obligations.ResetAndStartHaveTheInvariants : Prop :=
  EngineInv State.reset ∧ SystemInv State.reset ∧
  (∀ aw, 17 ≤ aw → EngineInv (State.resetAt aw) ∧ SystemInv (State.resetAt aw)) ∧
  ∀ s : State, WidthInv s → MemoryInv s → EngineInv s.start

/-- 45 R250, 10 R39: whatever the host does, and whenever, the invariants stay; so does a step of the engine. (They hold a clause on
the model's own match length, log 4, and one on the hidden tries, log 7; some launches are refused, log 10.) -/
def Obligations.HostKeepsTheInvariants : Prop :=
  ∀ s t : State, SystemInv s →
    (∀ op : HostOp, hostStep op s = .next t → SystemInv t) ∧ (step s = .next t → SystemInv t)

/-- 00_scope R5: `AW` is a parameter of the engine: any width of at least 17 has a state after reset, 32 is the default, and neither a
step nor a host operation changes it. That State carries it is the model's choice (log 1). -/
def Obligations.WidthIsAParameter : Prop :=
  (∀ aw, (State.resetAt aw).aw = aw) ∧ State.reset = State.resetAt 32 ∧
  ∀ s t : State, (step s = .next t → t.aw = s.aw) ∧ ∀ op : HostOp, hostStep op s = .next t → t.aw = s.aw

/-- 20_memory R67: in every state with the invariants a step has a next state: no access outside IMEM, OMEM or `lens`, and no
refusal. -/
def Obligations.EveryStepIsSafe : Prop :=
  ∀ s : State, SystemInv s → ∃ t, step s = .next t

/-- 10_state R21, R23: OMEM is written append-only: bytes below the old `out_pos` and from the new one on are unchanged, `out_pos` never
falls and stays within `OUT_CAP` when it moves. IMEM and the length registers are never written (R20, R31). -/
def Obligations.OutputIsAppendOnly : Prop :=
  ∀ s t : State, step s = .next t →
    s.outPos.toNat ≤ t.outPos.toNat ∧ (t.outPos.toNat ≠ s.outPos.toNat → t.outPos.toNat ≤ s.outCap.toNat) ∧
    (∀ a, a < s.outPos.toNat ∨ t.outPos.toNat ≤ a → Memory.read t.omem a = Memory.read s.omem a) ∧
    t.imem = s.imem ∧ t.inLen.toNat = s.inLen.toNat ∧ t.outCap.toNat = s.outCap.toNat

/-- 42 R180: the successors of each state, where the step raises no fault and no match is half executed before it (log 4). -/
def Obligations.StepsFollowTheStateTable : Prop :=
  ∀ s t : State, step s = .next t → s.matchLen = 0 → t.fsm ≠ .error →
    (s.fsm = .header → t.fsm = .stored ∧ t.btype = 0 ∨ t.fsm = .fixed ∧ t.btype = 1 ∨ t.fsm = .dynHeader ∧ t.btype = 2) ∧
    (s.fsm = .stored → t.fsm = (if s.bfinal = 1 then .done else .header)) ∧
    (s.fsm = .fixed → t.fsm = .symbol) ∧
    (s.fsm = .dynHeader → t.fsm = .dynLengths) ∧
    (s.fsm = .dynLengths → t.fsm = (if t.idx = t.total then .dynBuild else .dynLengths)) ∧
    (s.fsm = .dynBuild → t.fsm = .symbol) ∧
    (s.fsm = .symbol → t.fsm = .symbol ∨ t.fsm = (if s.bfinal = 1 then .done else .header))

/-- 10_state R22, 42 R210: the cursor never moves backward; a step that reads an element and completes consumes a bit, and a table
set-up consumes none. -/
def Obligations.StepsConsumeBits : Prop :=
  ∀ s t : State, EngineInv s → step s = .next t →
    s.cur.bitIndex ≤ t.cur.bitIndex ∧
    (t.fsm ≠ .error → s.fsm = .header ∨ s.fsm = .stored ∨ s.fsm = .dynHeader ∨ s.fsm = .dynLengths ∨ s.fsm = .symbol →
      s.cur.bitIndex < t.cur.bitIndex) ∧
    (s.fsm = .fixed ∨ s.fsm = .dynBuild → SameCursor s t)

/-- 42 R210: every run ends, in `S_DONE` or `S_ERROR`, in fewer than `3 * (8 * IN_LEN) + 3` steps, whatever IMEM holds. -/
def Obligations.EveryRunEnds : Prop :=
  ∀ s : State, MemoryInv s →
    ∃ t, stepN (3 * (8 * s.inLen.toNat) + 2) s.start = .next t ∧ (t.fsm = .done ∨ t.fsm = .error)

/-- 10_state R20: bytes of IMEM at `IN_LEN` and above have no influence on any step. -/
def Obligations.InputBeyondInLenIsNotRead : Prop :=
  ∀ (s : State) (m : Memory), SameBelow s.inLen.toNat s.imem m →
    step { s with imem := m } = mapNext (fun t => { t with imem := m }) (step s)

/-- 10_state R21: bytes of OMEM at `out_pos` and above have no influence on any step, and bytes above keep their values. -/
def Obligations.OutputBeyondOutPosIsNotRead : Prop :=
  ∀ (s t : State) (m : Memory), SameBelow s.outPos.toNat s.omem m → step s = .next t →
    ∃ m', step { s with omem := m } = .next { t with omem := m' } ∧ SameBelow t.outPos.toNat t.omem m' ∧
      ∀ a, t.outPos.toNat ≤ a → Memory.read m' a = Memory.read m a

/-- 10_state R40, R46, 45 R251, R254, 92 D3: a run depends on the input bytes, the two lengths and nothing else: two engines with any
past and of any widths, started on the same input and capacity, agree after every number of steps, and each leaves its own OMEM
from `out_pos` on as it was. -/
def Obligations.RunsAreIndependentOfThePast : Prop :=
  ∀ (s u t : State) (n : Nat), u.inLen.toNat = s.inLen.toNat → u.outCap.toNat = s.outCap.toNat →
    SameBelow s.inLen.toNat s.imem u.imem → stepN n s.start = .next t →
    ∃ v, stepN n u.start = .next v ∧ v.fsm = t.fsm ∧ v.err = t.err ∧ SameCursor t v ∧ v.outPos.toNat = t.outPos.toNat ∧
      SameBelow t.outPos.toNat t.omem v.omem ∧
      ∀ a, t.outPos.toNat ≤ a → Memory.read v.omem a = Memory.read u.omem a

/-! ### Host interface -/

/-- 10_state R30, R32 to R36, 45 R250: what a register read returns and that it changes nothing; while BUSY `OUT_COUNT` and `IN_POS`
return a free value, of which nothing is said (log 8). -/
def Obligations.RegisterReads : Prop :=
  ∀ s : State, WidthInv s →
    (∀ k, k = 0 ∨ 7 ≤ k → hostRead k s = (0, s)) ∧
    ((hostRead 1 s).1.toNat = (statusOf s.fsm).toNat ∧ (hostRead 1 s).2 = s) ∧
    ((hostRead 2 s).1.toNat = (errValue s.err).toNat ∧ (hostRead 2 s).2 = s) ∧
    hostRead 3 s = (s.inLen, s) ∧ hostRead 4 s = (s.outCap, s) ∧
    (s.busy = false → hostRead 5 s = (s.outPos, s) ∧ hostRead 6 s = (s.cur.inPos, s)) ∧
    ∀ k, (hostRead k s).2 = { s with draws := (hostRead k s).2.draws }

/-- 45 R250, R252, 10 R30, R32: register writes, START among them, are ignored while BUSY; otherwise `IN_LEN` and `OUT_CAP` take the
low bits of the value, and no other write than START does anything. `IN_LEN` and `OUT_CAP` are as wide as the engine (00_scope R5).
(The record that the register was written is the model's: log 10.) -/
def Obligations.RegisterWrites : Prop :=
  ∀ (s : State) (k v : Nat),
    (s.busy = true → hostWrite k v s = .next s) ∧
    (s.busy = false → hostWrite 3 v s =
      .next { s with inLen := BitVec.ofNat s.aw v, platform := { s.platform with inLenWritten := true } }) ∧
    (s.busy = false → hostWrite 4 v s =
      .next { s with outCap := BitVec.ofNat s.aw v, platform := { s.platform with outCapWritten := true } }) ∧
    (k ≠ 0 → k ≠ 3 → k ≠ 4 → hostWrite k v s = .next s) ∧
    (v % 2 = 0 → hostWrite 0 v s = .next s)

/-- 45 R251, 10 R46: START from IDLE, DONE or ERROR begins a run at stream bit 0 and leaves the length registers, the memories and the
tables. The launches that 93 X2 and X4 tell a model to refuse are refused (log 10). START clears the model's own
match length too (log 4). -/
def Obligations.StartBeginsARun : Prop :=
  ∀ (s : State) (v : Nat), s.busy = false → v % 2 = 1 →
    (s.platform.inLenWritten = true → s.platform.outCapWritten = true →
      s.inLen.toNat ≤ s.platform.imemSize → s.outCap.toNat ≤ s.platform.omemSize →
      hostWrite 0 v s = .next
        { s with cur := { inPos := 0, bitbuf := 0, bitcnt := 0 }, outPos := 0, err := none, bfinal := 0, btype := 0,
                 fsm := .header, matchLen := 0 }) ∧
    (s.platform.inLenWritten = false ∨ s.platform.outCapWritten = false →
      hostWrite 0 v s = .refused .startBeforeLengths) ∧
    (s.platform.inLenWritten = true → s.platform.outCapWritten = true → s.platform.imemSize < s.inLen.toNat →
      hostWrite 0 v s = .refused .inputBeyondImem) ∧
    (s.platform.inLenWritten = true → s.platform.outCapWritten = true → s.inLen.toNat ≤ s.platform.imemSize →
      s.platform.omemSize < s.outCap.toNat → hostWrite 0 v s = .refused .outputBeyondOmem)

/-- 70 R312, R320, 93 X3: outside a run the host's bytes stand in IMEM from address 0 and OMEM is what it provides; while BUSY such an
access is refused (log 10). -/
def Obligations.HostMemoryAccess : Prop :=
  ∀ (s : State) (bytes : List Byte), bytes.length ≤ 2 ^ s.aw →
    (s.busy = true → hostLoadImem bytes s = .refused .memoryTouchedWhileBusy ∧
      hostProvideOmem bytes s = .refused .memoryTouchedWhileBusy ∧
      ∀ a, hostReadOmem a s = .refused .memoryTouchedWhileBusy) ∧
    (s.busy = false →
      (∃ t, hostLoadImem bytes s = .next t ∧ t = { s with imem := t.imem, platform := t.platform } ∧
        ∀ a, Memory.read t.imem a = if a < bytes.length then bytes.getD a 0 else Memory.read s.imem a) ∧
      (∃ t, hostProvideOmem bytes s = .next t ∧ t = { s with omem := t.omem, platform := t.platform } ∧
        ∀ a, a < bytes.length → hostReadOmem a t = .next (bytes.getD a 0)))

/-- 10_state R45, 70 R310: the values the spec gives for hardware reset, in any state; IMEM is not touched, OMEM not where an
interrupted run could not have written. -/
def Obligations.HardwareReset : Prop :=
  ∀ s : State,
    (hostReset s).aw = s.aw ∧ (hostReset s).fsm = .idle ∧ (hostReset s).err = none ∧
    (hostReset s).cur = { inPos := 0, bitbuf := 0, bitcnt := 0 } ∧
    (hostReset s).outPos = 0 ∧ (hostReset s).bfinal = 0 ∧ (hostReset s).btype = 0 ∧ (hostReset s).imem = s.imem ∧
    (s.busy = false → (hostReset s).omem = s.omem) ∧
    ∀ a, s.outCap.toNat ≤ a → Memory.read (hostReset s).omem a = Memory.read s.omem a

/-- 10_state R45: the values the spec gives for the state after reset, of an engine of any width and of the default one. -/
def Obligations.ResetState : Prop :=
  ∀ s : State, s = State.reset ∨ (∃ aw, s = State.resetAt aw) →
    s.fsm = .idle ∧ s.err = none ∧ s.cur = { inPos := 0, bitbuf := 0, bitcnt := 0 } ∧
    s.outPos = 0 ∧ s.bfinal = 0 ∧ s.btype = 0 ∧ statusOf s.fsm = 0 ∧
    s.busy = false ∧ s.done = false ∧ s.error = false
end

