-- ==== Sys2Proof/Laws/Decode.lean ====
section
/-! SUPPORT. Reading and decoding over any source of bits: a property that the source's three operations keep is kept by every
decoder; and what a field written bit by bit reads back as. -/

namespace Sys2Proof.Machine

/-- The source after a read, whatever the read answered. -/
def Rd.after {σ α : Type} : Rd σ α → σ
  | .ok _ s => s
  | .err _ s => s

@[simp] theorem Rd.after_ok {σ α : Type} (a : α) (s : σ) : (Rd.ok a s).after = s := rfl

@[simp] theorem Rd.after_err {σ α : Type} (e : ErrKind) (s : σ) : (Rd.err e s : Rd σ α).after = s := rfl

@[simp] theorem Rd.bind_ok {σ α β : Type} (a : α) (s : σ) (f : α → σ → Rd σ β) : (Rd.ok a s).bind f = f a s := rfl

@[simp] theorem Rd.bind_err {σ α β : Type} (e : ErrKind) (s : σ) (f : α → σ → Rd σ β) :
    (Rd.err e s : Rd σ α).bind f = .err e s := rfl

/-- A read in two parts succeeds only through both. -/
theorem Rd.bind_eq_ok {σ α β : Type} {r : Rd σ α} {f : α → σ → Rd σ β} {b : β} {t : σ} :
    r.bind f = .ok b t ↔ ∃ a s, r = .ok a s ∧ f a s = .ok b t := by
  cases r <;> simp [Rd.bind]

theorem Rd.after_bind {σ α β : Type} {P : σ → Prop} {r : Rd σ α} {f : α → σ → Rd σ β} (hr : P r.after)
    (hf : ∀ a s, P s → P (f a s).after) : P (r.bind f).after := by
  cases r with
  | ok a s => exact hf a s hr
  | err e s => exact hr

/-- What every operation of a source keeps. -/
structure Keeps {σ : Type} (src : Source σ) (P : σ → Prop) : Prop where
  next : ∀ s b t, src.next s = some (b, t) → P s → P t
  align : ∀ s, P s → P (src.align s)
  latch : ∀ l s, P s → P (src.latch l s)

variable {σ : Type} {src : Source σ} {P : σ → Prop}

theorem Keeps.readLsb (k : Keeps src P) (n : Nat) (s : σ) (h : P s) : P (readLsb src n s).after := by
  induction n generalizing s with
  | zero => exact h
  | succ n ih =>
    simp only [Machine.readLsb]
    split
    · exact h
    · rename_i b t hb
      have := ih t (k.next s b t hb h)
      split <;> simp_all

theorem Keeps.readMsb (k : Keeps src P) (n : Nat) (s : σ) (h : P s) : P (readMsb src n s).after := by
  induction n generalizing s with
  | zero => exact h
  | succ n ih =>
    simp only [Machine.readMsb]
    split
    · exact h
    · rename_i b t hb
      have := ih t (k.next s b t hb h)
      split <;> simp_all

theorem Keeps.readBits (k : Keeps src P) (n : Nat) (o : Order) (s : σ) (h : P s) : P (readBits src n o s).after := by
  cases o
  · exact k.readLsb n s h
  · exact k.readMsb n s h

theorem Keeps.decodeLoop (k : Keeps src P) (n : Nat) (cs : List Code) (v l : Nat) (s : σ) (h : P s) :
    P (decodeLoop src n cs v l s).after := by
  induction n generalizing cs v l s with
  | zero => exact h
  | succ n ih =>
    simp only [Machine.decodeLoop]
    split
    · exact h
    · split
      · exact h
      · have := k.readBits 1 .msb s h
        split
        · rename_i b t hb; rw [hb] at this; exact ih _ _ _ _ this
        · rename_i e t hb; rw [hb] at this; exact this

theorem Keeps.decodeSymbol (k : Keeps src P) (L : List Nat) (m : Nat) (s : σ) (h : P s) :
    P (decodeSymbol src L m s).after := k.decodeLoop _ _ _ _ s h

theorem Keeps.readClLens (k : Keeps src P) (cs : List Nat) (s : σ) (h : P s) : P (readClLens src cs s).after := by
  induction cs generalizing s with
  | nil => exact h
  | cons c cs ih =>
    exact Rd.after_bind (k.readBits _ _ _ h) fun v t ht =>
      Rd.after_bind (ih _ (k.latch _ _ ht)) fun vs u hu => hu

/-- Decoding an element keeps whatever the source's operations keep. -/
theorem Keeps.decodeElement (k : Keeps src P) (ctx : Ctx) (s : σ) (h : P s) : P (decodeElement src ctx s).after := by
  cases ctx with
  | header =>
    exact Rd.after_bind (k.readBits _ _ _ h) fun f t ht =>
      Rd.after_bind (k.readBits _ _ _ (k.latch _ _ ht)) fun _ _ hu => hu
  | stored =>
    exact Rd.after_bind (k.readBits _ _ _ (k.align _ h)) fun _ _ ht =>
      Rd.after_bind (k.readBits _ _ _ ht) fun _ _ hu => hu
  | dynHeader =>
    exact Rd.after_bind (k.readBits _ _ _ h) fun _ _ h1 =>
      Rd.after_bind (k.readBits _ _ _ (k.latch _ _ h1)) fun _ _ h2 =>
        Rd.after_bind (k.readBits _ _ _ (k.latch _ _ h2)) fun _ _ h3 =>
          Rd.after_bind (k.readClLens _ _ (k.latch _ _ (k.latch _ _ h3))) fun _ _ h4 => h4
  | codeLen L first =>
    refine Rd.after_bind (k.decodeSymbol _ _ _ h) fun c t ht => ?_
    split
    · exact ht
    · exact Rd.after_bind (k.readBits _ _ _ ht) fun _ _ hu => hu
  | litLen L =>
    exact Rd.after_bind (k.decodeSymbol _ _ _ h) fun _ _ ht =>
      Rd.after_bind (k.readBits _ _ _ ht) fun _ _ hu => hu
  | distance L =>
    exact Rd.after_bind (k.decodeSymbol _ _ _ h) fun _ _ ht =>
      Rd.after_bind (k.readBits _ _ _ ht) fun _ _ hu => hu

/-- Taking the next bit of a list. -/
@[simp] theorem listSource_next_cons (b : Bool) (t : List Bool) : listSource.next (b :: t) = some (b, t) := rfl

@[simp] theorem listSource_next_nil : listSource.next [] = none := rfl

@[simp] theorem listSource_latch (l : Latch) (s : List Bool) : listSource.latch l s = s := rfl

theorem lsbBits_succ (n v : Nat) : lsbBits (n + 1) v = v.testBit 0 :: lsbBits n (v / 2) := by
  simp only [lsbBits, List.range_succ_eq_map, List.map_cons, List.map_map, List.cons.injEq, true_and]
  apply List.map_congr_left
  intro j _
  simp [Nat.testBit_succ]

/-- A field written bit 0 first reads back. -/
theorem readLsb_lsbBits (n v : Nat) (rest : List Bool) (h : v < 2 ^ n) :
    Machine.readLsb listSource n (lsbBits n v ++ rest) = .ok v rest := by
  induction n generalizing v with
  | zero =>
    have : v = 0 := by simpa using h
    subst this; rfl
  | succ n ih =>
    have h2 : v / 2 < 2 ^ n := by rw [pow_succ] at h; omega
    rw [lsbBits_succ, List.cons_append, Machine.readLsb, listSource_next_cons]
    simp only [ih _ h2]
    congr 1
    rw [Nat.testBit_zero]
    rcases Nat.mod_two_eq_zero_or_one v with h | h <;> simp [h] <;> omega

end Sys2Proof.Machine
end

