-- ==== Sys2Proof/Laws/State.lean ====
section
/-! SUPPORT. One lemma per field per named update of the state, each true by rfl. -/

namespace Sys2Proof.Machine

@[simp] theorem raise_aw (s : State) (e : ErrKind) : (s.raise e).aw = s.aw := rfl
@[simp] theorem raise_imem (s : State) (e : ErrKind) : (s.raise e).imem = s.imem := rfl
@[simp] theorem raise_omem (s : State) (e : ErrKind) : (s.raise e).omem = s.omem := rfl
@[simp] theorem raise_cur (s : State) (e : ErrKind) : (s.raise e).cur = s.cur := rfl
@[simp] theorem raise_outPos (s : State) (e : ErrKind) : (s.raise e).outPos = s.outPos := rfl
@[simp] theorem raise_fsm (s : State) (e : ErrKind) : (s.raise e).fsm = .error := rfl
@[simp] theorem raise_bfinal (s : State) (e : ErrKind) : (s.raise e).bfinal = s.bfinal := rfl
@[simp] theorem raise_btype (s : State) (e : ErrKind) : (s.raise e).btype = s.btype := rfl
@[simp] theorem raise_nLl (s : State) (e : ErrKind) : (s.raise e).nLl = s.nLl := rfl
@[simp] theorem raise_nD (s : State) (e : ErrKind) : (s.raise e).nD = s.nD := rfl
@[simp] theorem raise_nCl (s : State) (e : ErrKind) : (s.raise e).nCl = s.nCl := rfl
@[simp] theorem raise_idx (s : State) (e : ErrKind) : (s.raise e).idx = s.idx := rfl
@[simp] theorem raise_total (s : State) (e : ErrKind) : (s.raise e).total = s.total := rfl
@[simp] theorem raise_inLen (s : State) (e : ErrKind) : (s.raise e).inLen = s.inLen := rfl
@[simp] theorem raise_outCap (s : State) (e : ErrKind) : (s.raise e).outCap = s.outCap := rfl
@[simp] theorem raise_err (s : State) (e : ErrKind) : (s.raise e).err = some e := rfl
@[simp] theorem raise_clLen (s : State) (e : ErrKind) : (s.raise e).clLen = s.clLen := rfl
@[simp] theorem raise_lens (s : State) (e : ErrKind) : (s.raise e).lens = s.lens := rfl
@[simp] theorem raise_clTrie (s : State) (e : ErrKind) : (s.raise e).clTrie = s.clTrie := rfl
@[simp] theorem raise_llTrie (s : State) (e : ErrKind) : (s.raise e).llTrie = s.llTrie := rfl
@[simp] theorem raise_dTrie (s : State) (e : ErrKind) : (s.raise e).dTrie = s.dTrie := rfl
@[simp] theorem raise_matchLen (s : State) (e : ErrKind) : (s.raise e).matchLen = 0 := rfl
@[simp] theorem raise_draws (s : State) (e : ErrKind) : (s.raise e).draws = s.draws := rfl
@[simp] theorem raise_platform (s : State) (e : ErrKind) : (s.raise e).platform = s.platform := rfl

@[simp] theorem start_aw (s : State) : (s.start).aw = s.aw := rfl
@[simp] theorem start_imem (s : State) : (s.start).imem = s.imem := rfl
@[simp] theorem start_omem (s : State) : (s.start).omem = s.omem := rfl
@[simp] theorem start_cur (s : State) : (s.start).cur = Cursor.zero := rfl
@[simp] theorem start_outPos (s : State) : (s.start).outPos = 0 := rfl
@[simp] theorem start_fsm (s : State) : (s.start).fsm = .header := rfl
@[simp] theorem start_bfinal (s : State) : (s.start).bfinal = 0 := rfl
@[simp] theorem start_btype (s : State) : (s.start).btype = 0 := rfl
@[simp] theorem start_nLl (s : State) : (s.start).nLl = s.nLl := rfl
@[simp] theorem start_nD (s : State) : (s.start).nD = s.nD := rfl
@[simp] theorem start_nCl (s : State) : (s.start).nCl = s.nCl := rfl
@[simp] theorem start_idx (s : State) : (s.start).idx = s.idx := rfl
@[simp] theorem start_total (s : State) : (s.start).total = s.total := rfl
@[simp] theorem start_inLen (s : State) : (s.start).inLen = s.inLen := rfl
@[simp] theorem start_outCap (s : State) : (s.start).outCap = s.outCap := rfl
@[simp] theorem start_err (s : State) : (s.start).err = none := rfl
@[simp] theorem start_clLen (s : State) : (s.start).clLen = s.clLen := rfl
@[simp] theorem start_lens (s : State) : (s.start).lens = s.lens := rfl
@[simp] theorem start_clTrie (s : State) : (s.start).clTrie = s.clTrie := rfl
@[simp] theorem start_llTrie (s : State) : (s.start).llTrie = s.llTrie := rfl
@[simp] theorem start_dTrie (s : State) : (s.start).dTrie = s.dTrie := rfl
@[simp] theorem start_matchLen (s : State) : (s.start).matchLen = 0 := rfl
@[simp] theorem start_draws (s : State) : (s.start).draws = s.draws := rfl
@[simp] theorem start_platform (s : State) : (s.start).platform = s.platform := rfl

@[simp] theorem latchHeader_aw (f : BitVec 1) (t : BitVec 2) (s : State) : (latchHeader f t s).aw = s.aw := rfl
@[simp] theorem latchHeader_imem (f : BitVec 1) (t : BitVec 2) (s : State) : (latchHeader f t s).imem = s.imem := rfl
@[simp] theorem latchHeader_omem (f : BitVec 1) (t : BitVec 2) (s : State) : (latchHeader f t s).omem = s.omem := rfl
@[simp] theorem latchHeader_cur (f : BitVec 1) (t : BitVec 2) (s : State) : (latchHeader f t s).cur = s.cur := rfl
@[simp] theorem latchHeader_outPos (f : BitVec 1) (t : BitVec 2) (s : State) : (latchHeader f t s).outPos = s.outPos := rfl
@[simp] theorem latchHeader_fsm (f : BitVec 1) (t : BitVec 2) (s : State) : (latchHeader f t s).fsm = s.fsm := rfl
@[simp] theorem latchHeader_bfinal (f : BitVec 1) (t : BitVec 2) (s : State) : (latchHeader f t s).bfinal = f := rfl
@[simp] theorem latchHeader_btype (f : BitVec 1) (t : BitVec 2) (s : State) : (latchHeader f t s).btype = t := rfl
@[simp] theorem latchHeader_nLl (f : BitVec 1) (t : BitVec 2) (s : State) : (latchHeader f t s).nLl = s.nLl := rfl
@[simp] theorem latchHeader_nD (f : BitVec 1) (t : BitVec 2) (s : State) : (latchHeader f t s).nD = s.nD := rfl
@[simp] theorem latchHeader_nCl (f : BitVec 1) (t : BitVec 2) (s : State) : (latchHeader f t s).nCl = s.nCl := rfl
@[simp] theorem latchHeader_idx (f : BitVec 1) (t : BitVec 2) (s : State) : (latchHeader f t s).idx = s.idx := rfl
@[simp] theorem latchHeader_total (f : BitVec 1) (t : BitVec 2) (s : State) : (latchHeader f t s).total = s.total := rfl
@[simp] theorem latchHeader_inLen (f : BitVec 1) (t : BitVec 2) (s : State) : (latchHeader f t s).inLen = s.inLen := rfl
@[simp] theorem latchHeader_outCap (f : BitVec 1) (t : BitVec 2) (s : State) : (latchHeader f t s).outCap = s.outCap := rfl
@[simp] theorem latchHeader_err (f : BitVec 1) (t : BitVec 2) (s : State) : (latchHeader f t s).err = s.err := rfl
@[simp] theorem latchHeader_clLen (f : BitVec 1) (t : BitVec 2) (s : State) : (latchHeader f t s).clLen = s.clLen := rfl
@[simp] theorem latchHeader_lens (f : BitVec 1) (t : BitVec 2) (s : State) : (latchHeader f t s).lens = s.lens := rfl
@[simp] theorem latchHeader_clTrie (f : BitVec 1) (t : BitVec 2) (s : State) : (latchHeader f t s).clTrie = s.clTrie := rfl
@[simp] theorem latchHeader_llTrie (f : BitVec 1) (t : BitVec 2) (s : State) : (latchHeader f t s).llTrie = s.llTrie := rfl
@[simp] theorem latchHeader_dTrie (f : BitVec 1) (t : BitVec 2) (s : State) : (latchHeader f t s).dTrie = s.dTrie := rfl
@[simp] theorem latchHeader_matchLen (f : BitVec 1) (t : BitVec 2) (s : State) : (latchHeader f t s).matchLen = s.matchLen := rfl
@[simp] theorem latchHeader_draws (f : BitVec 1) (t : BitVec 2) (s : State) : (latchHeader f t s).draws = s.draws := rfl
@[simp] theorem latchHeader_platform (f : BitVec 1) (t : BitVec 2) (s : State) : (latchHeader f t s).platform = s.platform := rfl

@[simp] theorem latchDynHeader_aw (hlit hdist : BitVec 5) (hclen : BitVec 4) (cll : List (BitVec 3)) (s : State) : (latchDynHeader hlit hdist hclen cll s).aw = s.aw := rfl
@[simp] theorem latchDynHeader_imem (hlit hdist : BitVec 5) (hclen : BitVec 4) (cll : List (BitVec 3)) (s : State) : (latchDynHeader hlit hdist hclen cll s).imem = s.imem := rfl
@[simp] theorem latchDynHeader_omem (hlit hdist : BitVec 5) (hclen : BitVec 4) (cll : List (BitVec 3)) (s : State) : (latchDynHeader hlit hdist hclen cll s).omem = s.omem := rfl
@[simp] theorem latchDynHeader_cur (hlit hdist : BitVec 5) (hclen : BitVec 4) (cll : List (BitVec 3)) (s : State) : (latchDynHeader hlit hdist hclen cll s).cur = s.cur := rfl
@[simp] theorem latchDynHeader_outPos (hlit hdist : BitVec 5) (hclen : BitVec 4) (cll : List (BitVec 3)) (s : State) : (latchDynHeader hlit hdist hclen cll s).outPos = s.outPos := rfl
@[simp] theorem latchDynHeader_fsm (hlit hdist : BitVec 5) (hclen : BitVec 4) (cll : List (BitVec 3)) (s : State) : (latchDynHeader hlit hdist hclen cll s).fsm = s.fsm := rfl
@[simp] theorem latchDynHeader_bfinal (hlit hdist : BitVec 5) (hclen : BitVec 4) (cll : List (BitVec 3)) (s : State) : (latchDynHeader hlit hdist hclen cll s).bfinal = s.bfinal := rfl
@[simp] theorem latchDynHeader_btype (hlit hdist : BitVec 5) (hclen : BitVec 4) (cll : List (BitVec 3)) (s : State) : (latchDynHeader hlit hdist hclen cll s).btype = s.btype := rfl
@[simp] theorem latchDynHeader_nLl (hlit hdist : BitVec 5) (hclen : BitVec 4) (cll : List (BitVec 3)) (s : State) : (latchDynHeader hlit hdist hclen cll s).nLl = litLenCount hlit := rfl
@[simp] theorem latchDynHeader_nD (hlit hdist : BitVec 5) (hclen : BitVec 4) (cll : List (BitVec 3)) (s : State) : (latchDynHeader hlit hdist hclen cll s).nD = distCount hdist := rfl
@[simp] theorem latchDynHeader_nCl (hlit hdist : BitVec 5) (hclen : BitVec 4) (cll : List (BitVec 3)) (s : State) : (latchDynHeader hlit hdist hclen cll s).nCl = codeLenCount hclen := rfl
@[simp] theorem latchDynHeader_idx (hlit hdist : BitVec 5) (hclen : BitVec 4) (cll : List (BitVec 3)) (s : State) : (latchDynHeader hlit hdist hclen cll s).idx = s.idx := rfl
@[simp] theorem latchDynHeader_total (hlit hdist : BitVec 5) (hclen : BitVec 4) (cll : List (BitVec 3)) (s : State) : (latchDynHeader hlit hdist hclen cll s).total = s.total := rfl
@[simp] theorem latchDynHeader_inLen (hlit hdist : BitVec 5) (hclen : BitVec 4) (cll : List (BitVec 3)) (s : State) : (latchDynHeader hlit hdist hclen cll s).inLen = s.inLen := rfl
@[simp] theorem latchDynHeader_outCap (hlit hdist : BitVec 5) (hclen : BitVec 4) (cll : List (BitVec 3)) (s : State) : (latchDynHeader hlit hdist hclen cll s).outCap = s.outCap := rfl
@[simp] theorem latchDynHeader_err (hlit hdist : BitVec 5) (hclen : BitVec 4) (cll : List (BitVec 3)) (s : State) : (latchDynHeader hlit hdist hclen cll s).err = s.err := rfl
@[simp] theorem latchDynHeader_clLen (hlit hdist : BitVec 5) (hclen : BitVec 4) (cll : List (BitVec 3)) (s : State) : (latchDynHeader hlit hdist hclen cll s).clLen = clLenOf cll := rfl
@[simp] theorem latchDynHeader_lens (hlit hdist : BitVec 5) (hclen : BitVec 4) (cll : List (BitVec 3)) (s : State) : (latchDynHeader hlit hdist hclen cll s).lens = s.lens := rfl
@[simp] theorem latchDynHeader_clTrie (hlit hdist : BitVec 5) (hclen : BitVec 4) (cll : List (BitVec 3)) (s : State) : (latchDynHeader hlit hdist hclen cll s).clTrie = s.clTrie := rfl
@[simp] theorem latchDynHeader_llTrie (hlit hdist : BitVec 5) (hclen : BitVec 4) (cll : List (BitVec 3)) (s : State) : (latchDynHeader hlit hdist hclen cll s).llTrie = s.llTrie := rfl
@[simp] theorem latchDynHeader_dTrie (hlit hdist : BitVec 5) (hclen : BitVec 4) (cll : List (BitVec 3)) (s : State) : (latchDynHeader hlit hdist hclen cll s).dTrie = s.dTrie := rfl
@[simp] theorem latchDynHeader_matchLen (hlit hdist : BitVec 5) (hclen : BitVec 4) (cll : List (BitVec 3)) (s : State) : (latchDynHeader hlit hdist hclen cll s).matchLen = s.matchLen := rfl
@[simp] theorem latchDynHeader_draws (hlit hdist : BitVec 5) (hclen : BitVec 4) (cll : List (BitVec 3)) (s : State) : (latchDynHeader hlit hdist hclen cll s).draws = s.draws := rfl
@[simp] theorem latchDynHeader_platform (hlit hdist : BitVec 5) (hclen : BitVec 4) (cll : List (BitVec 3)) (s : State) : (latchDynHeader hlit hdist hclen cll s).platform = s.platform := rfl

/-- The latches write one register each; none touches the width, the cursor or what it reads from. -/
@[simp] theorem latch_aw (l : Latch) (s : State) : (s.latch l).aw = s.aw := by cases l <;> rfl
@[simp] theorem latch_imem (l : Latch) (s : State) : (s.latch l).imem = s.imem := by cases l <;> rfl
@[simp] theorem latch_omem (l : Latch) (s : State) : (s.latch l).omem = s.omem := by cases l <;> rfl
@[simp] theorem latch_bitIndex (l : Latch) (s : State) : (s.latch l).cur.bitIndex = s.cur.bitIndex := by cases l <;> rfl
@[simp] theorem latch_outPos (l : Latch) (s : State) : (s.latch l).outPos.toNat = s.outPos.toNat := by cases l <;> rfl
@[simp] theorem latch_fsm (l : Latch) (s : State) : (s.latch l).fsm = s.fsm := by cases l <;> rfl
@[simp] theorem latch_inLen (l : Latch) (s : State) : (s.latch l).inLen.toNat = s.inLen.toNat := by cases l <;> rfl
@[simp] theorem latch_outCap (l : Latch) (s : State) : (s.latch l).outCap.toNat = s.outCap.toNat := by cases l <;> rfl
@[simp] theorem latch_lens (l : Latch) (s : State) : (s.latch l).lens = s.lens := by cases l <;> rfl
@[simp] theorem latch_err (l : Latch) (s : State) : (s.latch l).err = s.err := by cases l <;> rfl

/-- A latch writes header registers and nothing else. -/
theorem latch_frame (l : Latch) (s : State) : ∃ f a b c v,
    s.latch l = { s with bfinal := f, nLl := a, nD := b, nCl := c, clLen := v } := by
  cases l <;> exact ⟨_, _, _, _, _, rfl⟩

end Sys2Proof.Machine
end

