-- ==== Sys2Proof/Laws/Fetch.lean ====
section
/-! SUPPORT. What fetching an element leaves alone, and what one bit from the cursor is. -/

namespace Sys2Proof.Machine

/-- `t` is `s` but for the cursor and the registers a header latches while it is read. -/
def SameButFetched (s t : State) : Prop :=
  ∃ c f a b n v, t = { s with cur := c, bfinal := f, nLl := a, nD := b, nCl := n, clLen := v }

theorem SameButFetched.refl (s : State) : SameButFetched s s := ⟨_, _, _, _, _, _, rfl⟩

theorem stateSource_keeps (s : State) : Keeps stateSource (SameButFetched s) where
  next u b t h hu := by
    obtain ⟨c, f, a, d, n, v, rfl⟩ := hu
    simp only [stateSource, Option.map_eq_some_iff, Prod.mk.injEq] at h
    obtain ⟨r, -, -, rfl⟩ := h
    exact ⟨_, _, _, _, _, _, rfl⟩
  align u hu := by obtain ⟨c, f, a, d, n, v, rfl⟩ := hu; exact ⟨_, _, _, _, _, _, rfl⟩
  latch l u hu := by
    obtain ⟨c, f, a, d, n, v, rfl⟩ := hu
    cases l <;> exact ⟨_, _, _, _, _, _, rfl⟩

/-- Fetching writes the cursor and the latched header fields, nothing else. -/
theorem fetch_frame (ctx : Ctx) (s : State) : SameButFetched s (fetch ctx s).after :=
  (stateSource_keeps s).decodeElement ctx s (.refl s)

/-- The cursor gives no bit exactly at the end of the input. -/
theorem cursor_next_none {aw : Nat} (imem : Memory) (inLen : Addr aw) (c : Cursor aw) :
    c.next imem inLen = none ↔ c.bitcnt = 0 ∧ inLen.toNat ≤ c.inPos.toNat := by
  unfold Cursor.next
  by_cases h : c.bitcnt = 0
  · rw [if_pos h]; split <;> simp_all
  · rw [if_neg h]; exact ⟨fun h' => (by cases h'), fun h' => absurd h'.1 h⟩

end Sys2Proof.Machine
end

