-- ==== Sys2Proof/Laws/Ops.lean ====
section
/-! SUPPORT. What each shared operation can do, said once: the answer where it goes through, and the only way to a next state. -/

namespace Sys2Proof.Machine

@[simp] theorem andThen_next (s : State) (f : State → Result) : andThen (.next s) f = f s := rfl

@[simp] theorem andThen_fault (e : Fault) (f : State → Result) : andThen (.fault e) f = .fault e := rfl

@[simp] theorem andThen_refused (e : Refusal) (f : State → Result) : andThen (.refused e) f = .refused e := rfl

/-- A sequence answers a next state only through one. -/
theorem andThen_eq_next {r : Result} {f : State → Result} {t : State} :
    andThen r f = .next t ↔ ∃ u, r = .next u ∧ f u = .next t := by
  cases r <;> simp [andThen]

@[simp] theorem raised_eq (e : ErrKind) (s : State) : raised e s = .next (s.raise e) := rfl

theorem addr_add_one {aw : Nat} {a b : Addr aw} (h : a.toNat < b.toNat) : (a + 1).toNat = a.toNat + 1 := by
  have := b.isLt
  rw [BitVec.toNat_add, show (1 : Addr aw).toNat = 1 % 2 ^ aw from rfl, Nat.mod_eq_of_lt (a := 1) (by omega),
    Nat.mod_eq_of_lt (by omega)]

theorem addr_add_ofNat {aw : Nat} {a b : Addr aw} {n : Nat} (h : n ≤ b.toNat - a.toNat) (hab : a.toNat ≤ b.toNat) :
    (a + BitVec.ofNat aw n).toNat = a.toNat + n := by
  have := b.isLt
  rw [BitVec.toNat_add, BitVec.toNat_ofNat]
  have : n < 2 ^ aw := by omega
  rw [Nat.mod_eq_of_lt this, Nat.mod_eq_of_lt]
  omega

/-- A byte is appended exactly while `out_pos` is below `OUT_CAP`. -/
theorem appendByte_next {b : Byte} {s : State} (h : s.outPos.toNat < s.outCap.toNat) :
    appendByte b s = .next { s with omem := Memory.write s.omem s.outPos.toNat b, outPos := s.outPos + 1 } := by
  simp [appendByte, h]

theorem appendByte_eq_next {b : Byte} {s t : State} (h : appendByte b s = .next t) :
    s.outPos.toNat < s.outCap.toNat ∧
      t = { s with omem := Memory.write s.omem s.outPos.toNat b, outPos := s.outPos + 1 } := by
  unfold appendByte at h
  split at h
  · rename_i hlt; exact ⟨hlt, by injection h with h; exact h.symm⟩
  · cases h

/-- The stored copy goes through when the payload is there and fits, and then moves exactly the payload. -/
theorem storedCopy_next (n : Nat) (s : State) (hi : n ≤ s.inLen.toNat - s.cur.inPos.toNat)
    (ho : n ≤ s.outCap.toNat - s.outPos.toNat) :
    storedCopy n s = .next { s with
      omem := Memory.writeBytes s.omem s.outPos.toNat (Memory.readBytes s.imem s.cur.inPos.toNat n)
      cur := { s.cur with inPos := s.cur.inPos + BitVec.ofNat s.aw n }
      outPos := s.outPos + BitVec.ofNat s.aw n } := by
  induction n generalizing s with
  | zero => simp [storedCopy, Memory.readBytes, Memory.writeBytes]
  | succ n ih =>
    have h1 : s.cur.inPos.toNat < s.inLen.toNat := by omega
    have h2 : s.outPos.toNat < s.outCap.toNat := by omega
    have e1 := addr_add_one h1
    have e2 := addr_add_one h2
    rw [storedCopy, if_pos h1, appendByte_next h2, andThen_next, ih]
    · have add1 : ∀ a : Addr s.aw, a + 1 + BitVec.ofNat s.aw n = a + BitVec.ofNat s.aw (n + 1) := by
        intro a
        rw [show BitVec.ofNat s.aw (n + 1) = BitVec.ofNat s.aw n + 1 from BitVec.ofNat_add ..,
          BitVec.add_assoc, BitVec.add_comm 1]
      simp only [e1, e2, Memory.readBytes, Memory.writeBytes, add1]
    · simp only [e1]; omega
    · simp only [e2]; omega

/-- The memory after a match copy of `n` bytes to `p`. -/
def matchMemory (distance : Nat) : Nat → Memory → Nat → Memory
  | 0, m, _ => m
  | n + 1, m, p => matchMemory distance n (Memory.write m p (Memory.read m (p - distance))) (p + 1)

/-- The match copy goes through when the source is behind and the target fits. -/
theorem matchBytes_next (distance n : Nat) (s : State) (hd : distance ≤ s.outPos.toNat) (h0 : 0 < distance)
    (ho : n ≤ s.outCap.toNat - s.outPos.toNat) :
    matchBytes distance n s = .next { s with
      omem := matchMemory distance n s.omem s.outPos.toNat
      outPos := s.outPos + BitVec.ofNat s.aw n } := by
  induction n generalizing s with
  | zero => simp [matchBytes, matchMemory]
  | succ n ih =>
    have h2 : s.outPos.toNat < s.outCap.toNat := by omega
    have e2 := addr_add_one h2
    rw [matchBytes, if_pos ⟨hd, h0⟩, appendByte_next h2, andThen_next, ih]
    · have add1 : s.outPos + 1 + BitVec.ofNat s.aw n = s.outPos + BitVec.ofNat s.aw (n + 1) := by
        rw [show BitVec.ofNat s.aw (n + 1) = BitVec.ofNat s.aw n + 1 from BitVec.ofNat_add ..,
          BitVec.add_assoc, BitVec.add_comm 1]
      simp only [e2, matchMemory, add1]
    · simp only [e2]; omega
    · simp only [e2]; omega

/-- A match copy to `p` leaves every byte outside its target alone. -/
theorem read_matchMemory_outside (distance n : Nat) (m : Memory) (p a : Nat) (h : a < p ∨ p + n ≤ a) :
    Memory.read (matchMemory distance n m p) a = Memory.read m a := by
  induction n generalizing m p with
  | zero => rfl
  | succ n ih =>
    rw [matchMemory, ih _ _ (by omega), Memory.read_write, if_neg (by omega)]

theorem matchMemory_wf (distance n : Nat) (m : Memory) (p : Nat) (h : Memory.wf m = true) :
    Memory.wf (matchMemory distance n m p) = true := by
  induction n generalizing m p with
  | zero => exact h
  | succ n ih => exact ih _ _ (Memory.wf_write _ _ _ h)

/-- `MatchCopy` answers one of three ways. -/
theorem matchCopy_cases (length distance : Nat) (s : State) (k : State → Result) :
    (s.outPos.toNat < distance ∧ matchCopy length distance s k = .next (s.raise .backReferenceOutOfRange)) ∨
    (distance ≤ s.outPos.toNat ∧ s.outCap.toNat - s.outPos.toNat < length ∧
      matchCopy length distance s k = .next (s.raise .outputBufferExhausted)) ∨
    (distance ≤ s.outPos.toNat ∧ length ≤ s.outCap.toNat - s.outPos.toNat ∧
      matchCopy length distance s k = andThen (matchBytes distance length s) k) := by
  unfold matchCopy
  by_cases h1 : s.outPos.toNat < distance
  · exact .inl ⟨h1, by simp [h1]⟩
  · by_cases h2 : s.outCap.toNat - s.outPos.toNat < length
    · exact .inr (.inl ⟨by omega, h2, by simp [h1, h2]⟩)
    · exact .inr (.inr ⟨by omega, by omega, by simp [h1, h2]⟩)

/-- A literal answers one of two ways. -/
theorem literal_cases (b : Byte) (s : State) :
    (s.outCap.toNat ≤ s.outPos.toNat ∧ literal b s = .next (s.raise .outputBufferExhausted)) ∨
    (s.outPos.toNat < s.outCap.toNat ∧ literal b s = .next { s with
      omem := Memory.write s.omem s.outPos.toNat b, outPos := s.outPos + 1, fsm := .symbol }) := by
  unfold literal
  by_cases h : s.outCap.toNat ≤ s.outPos.toNat
  · exact .inl ⟨h, by simp [h]⟩
  · exact .inr ⟨by omega, by rw [if_neg h, appendByte_next (by omega)]; rfl⟩

/-- Filling writes the entries of its range and no other. -/
theorem getElem_fillVector (n i : Nat) (v : BitVec 4) (a : Vector (BitVec 4) Config.CAP_LENS) (j : Nat)
    (hj : j < Config.CAP_LENS) :
    (fillVector n i v a)[j] = if i ≤ j ∧ j < i + n then v else a[j] := by
  induction n generalizing i a with
  | zero => rw [fillVector, if_neg (by omega)]
  | succ n ih =>
    rw [fillVector, ih]
    by_cases h : i + 1 ≤ j ∧ j < i + 1 + n
    · rw [if_pos h, if_pos (by omega)]
    · rw [if_neg h]
      by_cases h3 : i = j
      · subst h3; simp
      · rw [if_neg (by omega)]
        simp [h3]

/-- Storing lengths answers a next state exactly when the entries are inside the table. -/
theorem storeLengths_cases (n : Nat) (v : BitVec 4) (s : State) :
    (s.idx.toNat + n ≤ Config.CAP_LENS ∧ storeLengths n v s = .next { s with
      lens := fillVector n s.idx.toNat v s.lens
      idx := s.idx + BitVec.ofNat 9 n
      fsm := if s.idx + BitVec.ofNat 9 n = s.total then .dynBuild else .dynLengths }) ∨
    (Config.CAP_LENS < s.idx.toNat + n ∧ storeLengths n v s = .fault .lensWriteOutside) := by
  unfold storeLengths
  by_cases h : s.idx.toNat + n ≤ Config.CAP_LENS
  · exact .inl ⟨h, by rw [if_pos h]⟩
  · exact .inr ⟨by omega, by rw [if_neg h]⟩

/-- `Build` raises exactly on an over-subscribed table. -/
theorem build_cases (L : List Nat) (maxbits : Nat) (s : State) (k : Trie → Result) :
    (overSubscribed L maxbits = true ∧ build L maxbits s k = .next (s.raise .overSubscribedHuffmanTable)) ∨
    (overSubscribed L maxbits = false ∧ ∃ t, buildTrie L maxbits = some t ∧ build L maxbits s k = k t) := by
  unfold build buildTrie
  cases h : overSubscribed L maxbits
  · exact .inr ⟨rfl, (codes L maxbits).foldl Trie.insert Trie.empty, by simp, by simp⟩
  · exact .inl ⟨rfl, by simp⟩

/-- A run is checked against the entries left, then stored. -/
theorem storeRun_cases (rep : Nat) (v : BitVec 4) (s : State) :
    (s.total.toNat - s.idx.toNat < rep ∧ storeRun rep v s = .next (s.raise .malformedCodeLengthRun)) ∨
    (rep ≤ s.total.toNat - s.idx.toNat ∧ storeRun rep v s = storeLengths rep v s) := by
  unfold storeRun
  by_cases h : s.total.toNat - s.idx.toNat < rep
  · exact .inl ⟨h, by simp [h]⟩
  · exact .inr ⟨by omega, by rw [if_neg h]⟩

/-- The two builds of a block answer one of three ways. -/
theorem buildBoth_cases (s : State) :
    (overSubscribed s.llLengths Config.MAXBITS = true ∧ buildBoth s = .next (s.raise .overSubscribedHuffmanTable)) ∨
    (∃ a, buildTrie s.llLengths Config.MAXBITS = some a ∧ overSubscribed s.dLengths Config.MAXBITS = true ∧
      buildBoth s = .next (State.raise { s with llTrie := a } .overSubscribedHuffmanTable)) ∨
    (∃ a b, buildTrie s.llLengths Config.MAXBITS = some a ∧ buildTrie s.dLengths Config.MAXBITS = some b ∧
      buildBoth s = .next { s with llTrie := a, dTrie := b, fsm := .symbol }) := by
  unfold buildBoth
  rcases build_cases s.llLengths Config.MAXBITS s _ with ⟨h, e⟩ | ⟨-, a, ha, e⟩
  · exact .inl ⟨h, e⟩
  · refine .inr ?_
    rw [e]
    rcases build_cases s.dLengths Config.MAXBITS { s with llTrie := a } _ with ⟨h, e'⟩ | ⟨-, b, hb, e'⟩
    · exact .inl ⟨a, ha, h, e'⟩
    · exact .inr ⟨a, b, ha, hb, e'⟩

end Sys2Proof.Machine
end

