-- ==== Sys2Proof/Laws/PerInstr.lean ====
section
/-! SUPPORT. One law per constructor of Instr: the element is rebuilt from its fields, and but for a dynamic header with a list
of the wrong length it is well formed. -/

namespace Sys2Proof.Laws.Head

/-- Taking an element apart and building it again gives it back, and its fields fit their encoding; a dynamic header is well
formed when its list has the length its count field says. -/
def Statement (i : Instr) : Prop :=
  i.head.instr = i ∧
    ((∃ hlit hdist hclen cll, i = .dynhdr hlit hdist hclen cll ∧ (i.wf = true ↔ cll.length = hclen.toNat + 4)) ∨
      i.wf = true)

/-- An extra field back from its value. -/
theorem ofNat_toNat_self {w : Nat} (e : BitVec w) : BitVec.ofNat w e.toNat = e := by simp

/-- An extra field fits its bits. -/
theorem fits_extra {w : Nat} (e : BitVec w) : Nat.blt e.toNat (2 ^ w) = true := by
  simp [Nat.blt_eq, e.isLt]

theorem blockStored (f : BitVec 1) : Statement (.blockStored f) := ⟨rfl, .inr rfl⟩
theorem blockFixed (f : BitVec 1) : Statement (.blockFixed f) := ⟨rfl, .inr rfl⟩
theorem blockDynamic (f : BitVec 1) : Statement (.blockDynamic f) := ⟨rfl, .inr rfl⟩
theorem blockReserved (f : BitVec 1) : Statement (.blockReserved f) := ⟨rfl, .inr rfl⟩
theorem storedBody (len nlen : BitVec 16) : Statement (.storedBody len nlen) := ⟨rfl, .inr rfl⟩
theorem dynhdr (hlit hdist : BitVec 5) (hclen : BitVec 4) (cll : List (BitVec 3)) :
    Statement (.dynhdr hlit hdist hclen cll) :=
  ⟨rfl, .inl ⟨hlit, hdist, hclen, cll, rfl, by simp [Instr.wf, Instr.head, Head.wf]⟩⟩
theorem cl0 : Statement .cl0 := ⟨rfl, .inr rfl⟩
theorem cl1 : Statement .cl1 := ⟨rfl, .inr rfl⟩
theorem cl2 : Statement .cl2 := ⟨rfl, .inr rfl⟩
theorem cl3 : Statement .cl3 := ⟨rfl, .inr rfl⟩
theorem cl4 : Statement .cl4 := ⟨rfl, .inr rfl⟩
theorem cl5 : Statement .cl5 := ⟨rfl, .inr rfl⟩
theorem cl6 : Statement .cl6 := ⟨rfl, .inr rfl⟩
theorem cl7 : Statement .cl7 := ⟨rfl, .inr rfl⟩
theorem cl8 : Statement .cl8 := ⟨rfl, .inr rfl⟩
theorem cl9 : Statement .cl9 := ⟨rfl, .inr rfl⟩
theorem cl10 : Statement .cl10 := ⟨rfl, .inr rfl⟩
theorem cl11 : Statement .cl11 := ⟨rfl, .inr rfl⟩
theorem cl12 : Statement .cl12 := ⟨rfl, .inr rfl⟩
theorem cl13 : Statement .cl13 := ⟨rfl, .inr rfl⟩
theorem cl14 : Statement .cl14 := ⟨rfl, .inr rfl⟩
theorem cl15 : Statement .cl15 := ⟨rfl, .inr rfl⟩
theorem clRepPrev (e : BitVec 2) : Statement (.clRepPrev e) :=
  ⟨congrArg Instr.clRepPrev (ofNat_toNat_self e), .inr (fits_extra e)⟩
theorem clRepZ3 (e : BitVec 3) : Statement (.clRepZ3 e) :=
  ⟨congrArg Instr.clRepZ3 (ofNat_toNat_self e), .inr (fits_extra e)⟩
theorem clRepZ11 (e : BitVec 7) : Statement (.clRepZ11 e) :=
  ⟨congrArg Instr.clRepZ11 (ofNat_toNat_self e), .inr (fits_extra e)⟩
theorem eob : Statement .eob := ⟨rfl, .inr rfl⟩
theorem len257 : Statement .len257 := ⟨rfl, .inr rfl⟩
theorem len258 : Statement .len258 := ⟨rfl, .inr rfl⟩
theorem len259 : Statement .len259 := ⟨rfl, .inr rfl⟩
theorem len260 : Statement .len260 := ⟨rfl, .inr rfl⟩
theorem len261 : Statement .len261 := ⟨rfl, .inr rfl⟩
theorem len262 : Statement .len262 := ⟨rfl, .inr rfl⟩
theorem len263 : Statement .len263 := ⟨rfl, .inr rfl⟩
theorem len264 : Statement .len264 := ⟨rfl, .inr rfl⟩
theorem len265 (e : BitVec 1) : Statement (.len265 e) :=
  ⟨congrArg Instr.len265 (ofNat_toNat_self e), .inr (fits_extra e)⟩
theorem len266 (e : BitVec 1) : Statement (.len266 e) :=
  ⟨congrArg Instr.len266 (ofNat_toNat_self e), .inr (fits_extra e)⟩
theorem len267 (e : BitVec 1) : Statement (.len267 e) :=
  ⟨congrArg Instr.len267 (ofNat_toNat_self e), .inr (fits_extra e)⟩
theorem len268 (e : BitVec 1) : Statement (.len268 e) :=
  ⟨congrArg Instr.len268 (ofNat_toNat_self e), .inr (fits_extra e)⟩
theorem len269 (e : BitVec 2) : Statement (.len269 e) :=
  ⟨congrArg Instr.len269 (ofNat_toNat_self e), .inr (fits_extra e)⟩
theorem len270 (e : BitVec 2) : Statement (.len270 e) :=
  ⟨congrArg Instr.len270 (ofNat_toNat_self e), .inr (fits_extra e)⟩
theorem len271 (e : BitVec 2) : Statement (.len271 e) :=
  ⟨congrArg Instr.len271 (ofNat_toNat_self e), .inr (fits_extra e)⟩
theorem len272 (e : BitVec 2) : Statement (.len272 e) :=
  ⟨congrArg Instr.len272 (ofNat_toNat_self e), .inr (fits_extra e)⟩
theorem len273 (e : BitVec 3) : Statement (.len273 e) :=
  ⟨congrArg Instr.len273 (ofNat_toNat_self e), .inr (fits_extra e)⟩
theorem len274 (e : BitVec 3) : Statement (.len274 e) :=
  ⟨congrArg Instr.len274 (ofNat_toNat_self e), .inr (fits_extra e)⟩
theorem len275 (e : BitVec 3) : Statement (.len275 e) :=
  ⟨congrArg Instr.len275 (ofNat_toNat_self e), .inr (fits_extra e)⟩
theorem len276 (e : BitVec 3) : Statement (.len276 e) :=
  ⟨congrArg Instr.len276 (ofNat_toNat_self e), .inr (fits_extra e)⟩
theorem len277 (e : BitVec 4) : Statement (.len277 e) :=
  ⟨congrArg Instr.len277 (ofNat_toNat_self e), .inr (fits_extra e)⟩
theorem len278 (e : BitVec 4) : Statement (.len278 e) :=
  ⟨congrArg Instr.len278 (ofNat_toNat_self e), .inr (fits_extra e)⟩
theorem len279 (e : BitVec 4) : Statement (.len279 e) :=
  ⟨congrArg Instr.len279 (ofNat_toNat_self e), .inr (fits_extra e)⟩
theorem len280 (e : BitVec 4) : Statement (.len280 e) :=
  ⟨congrArg Instr.len280 (ofNat_toNat_self e), .inr (fits_extra e)⟩
theorem len281 (e : BitVec 5) : Statement (.len281 e) :=
  ⟨congrArg Instr.len281 (ofNat_toNat_self e), .inr (fits_extra e)⟩
theorem len282 (e : BitVec 5) : Statement (.len282 e) :=
  ⟨congrArg Instr.len282 (ofNat_toNat_self e), .inr (fits_extra e)⟩
theorem len283 (e : BitVec 5) : Statement (.len283 e) :=
  ⟨congrArg Instr.len283 (ofNat_toNat_self e), .inr (fits_extra e)⟩
theorem len284 (e : BitVec 5) : Statement (.len284 e) :=
  ⟨congrArg Instr.len284 (ofNat_toNat_self e), .inr (fits_extra e)⟩
theorem len285 : Statement .len285 := ⟨rfl, .inr rfl⟩
theorem llRsvd286 : Statement .llRsvd286 := ⟨rfl, .inr rfl⟩
theorem llRsvd287 : Statement .llRsvd287 := ⟨rfl, .inr rfl⟩
theorem dist0 : Statement .dist0 := ⟨rfl, .inr rfl⟩
theorem dist1 : Statement .dist1 := ⟨rfl, .inr rfl⟩
theorem dist2 : Statement .dist2 := ⟨rfl, .inr rfl⟩
theorem dist3 : Statement .dist3 := ⟨rfl, .inr rfl⟩
theorem dist4 (e : BitVec 1) : Statement (.dist4 e) :=
  ⟨congrArg Instr.dist4 (ofNat_toNat_self e), .inr (fits_extra e)⟩
theorem dist5 (e : BitVec 1) : Statement (.dist5 e) :=
  ⟨congrArg Instr.dist5 (ofNat_toNat_self e), .inr (fits_extra e)⟩
theorem dist6 (e : BitVec 2) : Statement (.dist6 e) :=
  ⟨congrArg Instr.dist6 (ofNat_toNat_self e), .inr (fits_extra e)⟩
theorem dist7 (e : BitVec 2) : Statement (.dist7 e) :=
  ⟨congrArg Instr.dist7 (ofNat_toNat_self e), .inr (fits_extra e)⟩
theorem dist8 (e : BitVec 3) : Statement (.dist8 e) :=
  ⟨congrArg Instr.dist8 (ofNat_toNat_self e), .inr (fits_extra e)⟩
theorem dist9 (e : BitVec 3) : Statement (.dist9 e) :=
  ⟨congrArg Instr.dist9 (ofNat_toNat_self e), .inr (fits_extra e)⟩
theorem dist10 (e : BitVec 4) : Statement (.dist10 e) :=
  ⟨congrArg Instr.dist10 (ofNat_toNat_self e), .inr (fits_extra e)⟩
theorem dist11 (e : BitVec 4) : Statement (.dist11 e) :=
  ⟨congrArg Instr.dist11 (ofNat_toNat_self e), .inr (fits_extra e)⟩
theorem dist12 (e : BitVec 5) : Statement (.dist12 e) :=
  ⟨congrArg Instr.dist12 (ofNat_toNat_self e), .inr (fits_extra e)⟩
theorem dist13 (e : BitVec 5) : Statement (.dist13 e) :=
  ⟨congrArg Instr.dist13 (ofNat_toNat_self e), .inr (fits_extra e)⟩
theorem dist14 (e : BitVec 6) : Statement (.dist14 e) :=
  ⟨congrArg Instr.dist14 (ofNat_toNat_self e), .inr (fits_extra e)⟩
theorem dist15 (e : BitVec 6) : Statement (.dist15 e) :=
  ⟨congrArg Instr.dist15 (ofNat_toNat_self e), .inr (fits_extra e)⟩
theorem dist16 (e : BitVec 7) : Statement (.dist16 e) :=
  ⟨congrArg Instr.dist16 (ofNat_toNat_self e), .inr (fits_extra e)⟩
theorem dist17 (e : BitVec 7) : Statement (.dist17 e) :=
  ⟨congrArg Instr.dist17 (ofNat_toNat_self e), .inr (fits_extra e)⟩
theorem dist18 (e : BitVec 8) : Statement (.dist18 e) :=
  ⟨congrArg Instr.dist18 (ofNat_toNat_self e), .inr (fits_extra e)⟩
theorem dist19 (e : BitVec 8) : Statement (.dist19 e) :=
  ⟨congrArg Instr.dist19 (ofNat_toNat_self e), .inr (fits_extra e)⟩
theorem dist20 (e : BitVec 9) : Statement (.dist20 e) :=
  ⟨congrArg Instr.dist20 (ofNat_toNat_self e), .inr (fits_extra e)⟩
theorem dist21 (e : BitVec 9) : Statement (.dist21 e) :=
  ⟨congrArg Instr.dist21 (ofNat_toNat_self e), .inr (fits_extra e)⟩
theorem dist22 (e : BitVec 10) : Statement (.dist22 e) :=
  ⟨congrArg Instr.dist22 (ofNat_toNat_self e), .inr (fits_extra e)⟩
theorem dist23 (e : BitVec 10) : Statement (.dist23 e) :=
  ⟨congrArg Instr.dist23 (ofNat_toNat_self e), .inr (fits_extra e)⟩
theorem dist24 (e : BitVec 11) : Statement (.dist24 e) :=
  ⟨congrArg Instr.dist24 (ofNat_toNat_self e), .inr (fits_extra e)⟩
theorem dist25 (e : BitVec 11) : Statement (.dist25 e) :=
  ⟨congrArg Instr.dist25 (ofNat_toNat_self e), .inr (fits_extra e)⟩
theorem dist26 (e : BitVec 12) : Statement (.dist26 e) :=
  ⟨congrArg Instr.dist26 (ofNat_toNat_self e), .inr (fits_extra e)⟩
theorem dist27 (e : BitVec 12) : Statement (.dist27 e) :=
  ⟨congrArg Instr.dist27 (ofNat_toNat_self e), .inr (fits_extra e)⟩
theorem dist28 (e : BitVec 13) : Statement (.dist28 e) :=
  ⟨congrArg Instr.dist28 (ofNat_toNat_self e), .inr (fits_extra e)⟩
theorem dist29 (e : BitVec 13) : Statement (.dist29 e) :=
  ⟨congrArg Instr.dist29 (ofNat_toNat_self e), .inr (fits_extra e)⟩
theorem dRsvd30 : Statement .dRsvd30 := ⟨rfl, .inr rfl⟩
theorem dRsvd31 : Statement .dRsvd31 := ⟨rfl, .inr rfl⟩
theorem lit00 : Statement .lit00 := ⟨rfl, .inr rfl⟩
theorem lit01 : Statement .lit01 := ⟨rfl, .inr rfl⟩
theorem lit02 : Statement .lit02 := ⟨rfl, .inr rfl⟩
theorem lit03 : Statement .lit03 := ⟨rfl, .inr rfl⟩
theorem lit04 : Statement .lit04 := ⟨rfl, .inr rfl⟩
theorem lit05 : Statement .lit05 := ⟨rfl, .inr rfl⟩
theorem lit06 : Statement .lit06 := ⟨rfl, .inr rfl⟩
theorem lit07 : Statement .lit07 := ⟨rfl, .inr rfl⟩
theorem lit08 : Statement .lit08 := ⟨rfl, .inr rfl⟩
theorem lit09 : Statement .lit09 := ⟨rfl, .inr rfl⟩
theorem lit0A : Statement .lit0A := ⟨rfl, .inr rfl⟩
theorem lit0B : Statement .lit0B := ⟨rfl, .inr rfl⟩
theorem lit0C : Statement .lit0C := ⟨rfl, .inr rfl⟩
theorem lit0D : Statement .lit0D := ⟨rfl, .inr rfl⟩
theorem lit0E : Statement .lit0E := ⟨rfl, .inr rfl⟩
theorem lit0F : Statement .lit0F := ⟨rfl, .inr rfl⟩
theorem lit10 : Statement .lit10 := ⟨rfl, .inr rfl⟩
theorem lit11 : Statement .lit11 := ⟨rfl, .inr rfl⟩
theorem lit12 : Statement .lit12 := ⟨rfl, .inr rfl⟩
theorem lit13 : Statement .lit13 := ⟨rfl, .inr rfl⟩
theorem lit14 : Statement .lit14 := ⟨rfl, .inr rfl⟩
theorem lit15 : Statement .lit15 := ⟨rfl, .inr rfl⟩
theorem lit16 : Statement .lit16 := ⟨rfl, .inr rfl⟩
theorem lit17 : Statement .lit17 := ⟨rfl, .inr rfl⟩
theorem lit18 : Statement .lit18 := ⟨rfl, .inr rfl⟩
theorem lit19 : Statement .lit19 := ⟨rfl, .inr rfl⟩
theorem lit1A : Statement .lit1A := ⟨rfl, .inr rfl⟩
theorem lit1B : Statement .lit1B := ⟨rfl, .inr rfl⟩
theorem lit1C : Statement .lit1C := ⟨rfl, .inr rfl⟩
theorem lit1D : Statement .lit1D := ⟨rfl, .inr rfl⟩
theorem lit1E : Statement .lit1E := ⟨rfl, .inr rfl⟩
theorem lit1F : Statement .lit1F := ⟨rfl, .inr rfl⟩
theorem lit20 : Statement .lit20 := ⟨rfl, .inr rfl⟩
theorem lit21 : Statement .lit21 := ⟨rfl, .inr rfl⟩
theorem lit22 : Statement .lit22 := ⟨rfl, .inr rfl⟩
theorem lit23 : Statement .lit23 := ⟨rfl, .inr rfl⟩
theorem lit24 : Statement .lit24 := ⟨rfl, .inr rfl⟩
theorem lit25 : Statement .lit25 := ⟨rfl, .inr rfl⟩
theorem lit26 : Statement .lit26 := ⟨rfl, .inr rfl⟩
theorem lit27 : Statement .lit27 := ⟨rfl, .inr rfl⟩
theorem lit28 : Statement .lit28 := ⟨rfl, .inr rfl⟩
theorem lit29 : Statement .lit29 := ⟨rfl, .inr rfl⟩
theorem lit2A : Statement .lit2A := ⟨rfl, .inr rfl⟩
theorem lit2B : Statement .lit2B := ⟨rfl, .inr rfl⟩
theorem lit2C : Statement .lit2C := ⟨rfl, .inr rfl⟩
theorem lit2D : Statement .lit2D := ⟨rfl, .inr rfl⟩
theorem lit2E : Statement .lit2E := ⟨rfl, .inr rfl⟩
theorem lit2F : Statement .lit2F := ⟨rfl, .inr rfl⟩
theorem lit30 : Statement .lit30 := ⟨rfl, .inr rfl⟩
theorem lit31 : Statement .lit31 := ⟨rfl, .inr rfl⟩
theorem lit32 : Statement .lit32 := ⟨rfl, .inr rfl⟩
theorem lit33 : Statement .lit33 := ⟨rfl, .inr rfl⟩
theorem lit34 : Statement .lit34 := ⟨rfl, .inr rfl⟩
theorem lit35 : Statement .lit35 := ⟨rfl, .inr rfl⟩
theorem lit36 : Statement .lit36 := ⟨rfl, .inr rfl⟩
theorem lit37 : Statement .lit37 := ⟨rfl, .inr rfl⟩
theorem lit38 : Statement .lit38 := ⟨rfl, .inr rfl⟩
theorem lit39 : Statement .lit39 := ⟨rfl, .inr rfl⟩
theorem lit3A : Statement .lit3A := ⟨rfl, .inr rfl⟩
theorem lit3B : Statement .lit3B := ⟨rfl, .inr rfl⟩
theorem lit3C : Statement .lit3C := ⟨rfl, .inr rfl⟩
theorem lit3D : Statement .lit3D := ⟨rfl, .inr rfl⟩
theorem lit3E : Statement .lit3E := ⟨rfl, .inr rfl⟩
theorem lit3F : Statement .lit3F := ⟨rfl, .inr rfl⟩
theorem lit40 : Statement .lit40 := ⟨rfl, .inr rfl⟩
theorem lit41 : Statement .lit41 := ⟨rfl, .inr rfl⟩
theorem lit42 : Statement .lit42 := ⟨rfl, .inr rfl⟩
theorem lit43 : Statement .lit43 := ⟨rfl, .inr rfl⟩
theorem lit44 : Statement .lit44 := ⟨rfl, .inr rfl⟩
theorem lit45 : Statement .lit45 := ⟨rfl, .inr rfl⟩
theorem lit46 : Statement .lit46 := ⟨rfl, .inr rfl⟩
theorem lit47 : Statement .lit47 := ⟨rfl, .inr rfl⟩
theorem lit48 : Statement .lit48 := ⟨rfl, .inr rfl⟩
theorem lit49 : Statement .lit49 := ⟨rfl, .inr rfl⟩
theorem lit4A : Statement .lit4A := ⟨rfl, .inr rfl⟩
theorem lit4B : Statement .lit4B := ⟨rfl, .inr rfl⟩
theorem lit4C : Statement .lit4C := ⟨rfl, .inr rfl⟩
theorem lit4D : Statement .lit4D := ⟨rfl, .inr rfl⟩
theorem lit4E : Statement .lit4E := ⟨rfl, .inr rfl⟩
theorem lit4F : Statement .lit4F := ⟨rfl, .inr rfl⟩
theorem lit50 : Statement .lit50 := ⟨rfl, .inr rfl⟩
theorem lit51 : Statement .lit51 := ⟨rfl, .inr rfl⟩
theorem lit52 : Statement .lit52 := ⟨rfl, .inr rfl⟩
theorem lit53 : Statement .lit53 := ⟨rfl, .inr rfl⟩
theorem lit54 : Statement .lit54 := ⟨rfl, .inr rfl⟩
theorem lit55 : Statement .lit55 := ⟨rfl, .inr rfl⟩
theorem lit56 : Statement .lit56 := ⟨rfl, .inr rfl⟩
theorem lit57 : Statement .lit57 := ⟨rfl, .inr rfl⟩
theorem lit58 : Statement .lit58 := ⟨rfl, .inr rfl⟩
theorem lit59 : Statement .lit59 := ⟨rfl, .inr rfl⟩
theorem lit5A : Statement .lit5A := ⟨rfl, .inr rfl⟩
theorem lit5B : Statement .lit5B := ⟨rfl, .inr rfl⟩
theorem lit5C : Statement .lit5C := ⟨rfl, .inr rfl⟩
theorem lit5D : Statement .lit5D := ⟨rfl, .inr rfl⟩
theorem lit5E : Statement .lit5E := ⟨rfl, .inr rfl⟩
theorem lit5F : Statement .lit5F := ⟨rfl, .inr rfl⟩
theorem lit60 : Statement .lit60 := ⟨rfl, .inr rfl⟩
theorem lit61 : Statement .lit61 := ⟨rfl, .inr rfl⟩
theorem lit62 : Statement .lit62 := ⟨rfl, .inr rfl⟩
theorem lit63 : Statement .lit63 := ⟨rfl, .inr rfl⟩
theorem lit64 : Statement .lit64 := ⟨rfl, .inr rfl⟩
theorem lit65 : Statement .lit65 := ⟨rfl, .inr rfl⟩
theorem lit66 : Statement .lit66 := ⟨rfl, .inr rfl⟩
theorem lit67 : Statement .lit67 := ⟨rfl, .inr rfl⟩
theorem lit68 : Statement .lit68 := ⟨rfl, .inr rfl⟩
theorem lit69 : Statement .lit69 := ⟨rfl, .inr rfl⟩
theorem lit6A : Statement .lit6A := ⟨rfl, .inr rfl⟩
theorem lit6B : Statement .lit6B := ⟨rfl, .inr rfl⟩
theorem lit6C : Statement .lit6C := ⟨rfl, .inr rfl⟩
theorem lit6D : Statement .lit6D := ⟨rfl, .inr rfl⟩
theorem lit6E : Statement .lit6E := ⟨rfl, .inr rfl⟩
theorem lit6F : Statement .lit6F := ⟨rfl, .inr rfl⟩
theorem lit70 : Statement .lit70 := ⟨rfl, .inr rfl⟩
theorem lit71 : Statement .lit71 := ⟨rfl, .inr rfl⟩
theorem lit72 : Statement .lit72 := ⟨rfl, .inr rfl⟩
theorem lit73 : Statement .lit73 := ⟨rfl, .inr rfl⟩
theorem lit74 : Statement .lit74 := ⟨rfl, .inr rfl⟩
theorem lit75 : Statement .lit75 := ⟨rfl, .inr rfl⟩
theorem lit76 : Statement .lit76 := ⟨rfl, .inr rfl⟩
theorem lit77 : Statement .lit77 := ⟨rfl, .inr rfl⟩
theorem lit78 : Statement .lit78 := ⟨rfl, .inr rfl⟩
theorem lit79 : Statement .lit79 := ⟨rfl, .inr rfl⟩
theorem lit7A : Statement .lit7A := ⟨rfl, .inr rfl⟩
theorem lit7B : Statement .lit7B := ⟨rfl, .inr rfl⟩
theorem lit7C : Statement .lit7C := ⟨rfl, .inr rfl⟩
theorem lit7D : Statement .lit7D := ⟨rfl, .inr rfl⟩
theorem lit7E : Statement .lit7E := ⟨rfl, .inr rfl⟩
theorem lit7F : Statement .lit7F := ⟨rfl, .inr rfl⟩
theorem lit80 : Statement .lit80 := ⟨rfl, .inr rfl⟩
theorem lit81 : Statement .lit81 := ⟨rfl, .inr rfl⟩
theorem lit82 : Statement .lit82 := ⟨rfl, .inr rfl⟩
theorem lit83 : Statement .lit83 := ⟨rfl, .inr rfl⟩
theorem lit84 : Statement .lit84 := ⟨rfl, .inr rfl⟩
theorem lit85 : Statement .lit85 := ⟨rfl, .inr rfl⟩
theorem lit86 : Statement .lit86 := ⟨rfl, .inr rfl⟩
theorem lit87 : Statement .lit87 := ⟨rfl, .inr rfl⟩
theorem lit88 : Statement .lit88 := ⟨rfl, .inr rfl⟩
theorem lit89 : Statement .lit89 := ⟨rfl, .inr rfl⟩
theorem lit8A : Statement .lit8A := ⟨rfl, .inr rfl⟩
theorem lit8B : Statement .lit8B := ⟨rfl, .inr rfl⟩
theorem lit8C : Statement .lit8C := ⟨rfl, .inr rfl⟩
theorem lit8D : Statement .lit8D := ⟨rfl, .inr rfl⟩
theorem lit8E : Statement .lit8E := ⟨rfl, .inr rfl⟩
theorem lit8F : Statement .lit8F := ⟨rfl, .inr rfl⟩
theorem lit90 : Statement .lit90 := ⟨rfl, .inr rfl⟩
theorem lit91 : Statement .lit91 := ⟨rfl, .inr rfl⟩
theorem lit92 : Statement .lit92 := ⟨rfl, .inr rfl⟩
theorem lit93 : Statement .lit93 := ⟨rfl, .inr rfl⟩
theorem lit94 : Statement .lit94 := ⟨rfl, .inr rfl⟩
theorem lit95 : Statement .lit95 := ⟨rfl, .inr rfl⟩
theorem lit96 : Statement .lit96 := ⟨rfl, .inr rfl⟩
theorem lit97 : Statement .lit97 := ⟨rfl, .inr rfl⟩
theorem lit98 : Statement .lit98 := ⟨rfl, .inr rfl⟩
theorem lit99 : Statement .lit99 := ⟨rfl, .inr rfl⟩
theorem lit9A : Statement .lit9A := ⟨rfl, .inr rfl⟩
theorem lit9B : Statement .lit9B := ⟨rfl, .inr rfl⟩
theorem lit9C : Statement .lit9C := ⟨rfl, .inr rfl⟩
theorem lit9D : Statement .lit9D := ⟨rfl, .inr rfl⟩
theorem lit9E : Statement .lit9E := ⟨rfl, .inr rfl⟩
theorem lit9F : Statement .lit9F := ⟨rfl, .inr rfl⟩
theorem litA0 : Statement .litA0 := ⟨rfl, .inr rfl⟩
theorem litA1 : Statement .litA1 := ⟨rfl, .inr rfl⟩
theorem litA2 : Statement .litA2 := ⟨rfl, .inr rfl⟩
theorem litA3 : Statement .litA3 := ⟨rfl, .inr rfl⟩
theorem litA4 : Statement .litA4 := ⟨rfl, .inr rfl⟩
theorem litA5 : Statement .litA5 := ⟨rfl, .inr rfl⟩
theorem litA6 : Statement .litA6 := ⟨rfl, .inr rfl⟩
theorem litA7 : Statement .litA7 := ⟨rfl, .inr rfl⟩
theorem litA8 : Statement .litA8 := ⟨rfl, .inr rfl⟩
theorem litA9 : Statement .litA9 := ⟨rfl, .inr rfl⟩
theorem litAA : Statement .litAA := ⟨rfl, .inr rfl⟩
theorem litAB : Statement .litAB := ⟨rfl, .inr rfl⟩
theorem litAC : Statement .litAC := ⟨rfl, .inr rfl⟩
theorem litAD : Statement .litAD := ⟨rfl, .inr rfl⟩
theorem litAE : Statement .litAE := ⟨rfl, .inr rfl⟩
theorem litAF : Statement .litAF := ⟨rfl, .inr rfl⟩
theorem litB0 : Statement .litB0 := ⟨rfl, .inr rfl⟩
theorem litB1 : Statement .litB1 := ⟨rfl, .inr rfl⟩
theorem litB2 : Statement .litB2 := ⟨rfl, .inr rfl⟩
theorem litB3 : Statement .litB3 := ⟨rfl, .inr rfl⟩
theorem litB4 : Statement .litB4 := ⟨rfl, .inr rfl⟩
theorem litB5 : Statement .litB5 := ⟨rfl, .inr rfl⟩
theorem litB6 : Statement .litB6 := ⟨rfl, .inr rfl⟩
theorem litB7 : Statement .litB7 := ⟨rfl, .inr rfl⟩
theorem litB8 : Statement .litB8 := ⟨rfl, .inr rfl⟩
theorem litB9 : Statement .litB9 := ⟨rfl, .inr rfl⟩
theorem litBA : Statement .litBA := ⟨rfl, .inr rfl⟩
theorem litBB : Statement .litBB := ⟨rfl, .inr rfl⟩
theorem litBC : Statement .litBC := ⟨rfl, .inr rfl⟩
theorem litBD : Statement .litBD := ⟨rfl, .inr rfl⟩
theorem litBE : Statement .litBE := ⟨rfl, .inr rfl⟩
theorem litBF : Statement .litBF := ⟨rfl, .inr rfl⟩
theorem litC0 : Statement .litC0 := ⟨rfl, .inr rfl⟩
theorem litC1 : Statement .litC1 := ⟨rfl, .inr rfl⟩
theorem litC2 : Statement .litC2 := ⟨rfl, .inr rfl⟩
theorem litC3 : Statement .litC3 := ⟨rfl, .inr rfl⟩
theorem litC4 : Statement .litC4 := ⟨rfl, .inr rfl⟩
theorem litC5 : Statement .litC5 := ⟨rfl, .inr rfl⟩
theorem litC6 : Statement .litC6 := ⟨rfl, .inr rfl⟩
theorem litC7 : Statement .litC7 := ⟨rfl, .inr rfl⟩
theorem litC8 : Statement .litC8 := ⟨rfl, .inr rfl⟩
theorem litC9 : Statement .litC9 := ⟨rfl, .inr rfl⟩
theorem litCA : Statement .litCA := ⟨rfl, .inr rfl⟩
theorem litCB : Statement .litCB := ⟨rfl, .inr rfl⟩
theorem litCC : Statement .litCC := ⟨rfl, .inr rfl⟩
theorem litCD : Statement .litCD := ⟨rfl, .inr rfl⟩
theorem litCE : Statement .litCE := ⟨rfl, .inr rfl⟩
theorem litCF : Statement .litCF := ⟨rfl, .inr rfl⟩
theorem litD0 : Statement .litD0 := ⟨rfl, .inr rfl⟩
theorem litD1 : Statement .litD1 := ⟨rfl, .inr rfl⟩
theorem litD2 : Statement .litD2 := ⟨rfl, .inr rfl⟩
theorem litD3 : Statement .litD3 := ⟨rfl, .inr rfl⟩
theorem litD4 : Statement .litD4 := ⟨rfl, .inr rfl⟩
theorem litD5 : Statement .litD5 := ⟨rfl, .inr rfl⟩
theorem litD6 : Statement .litD6 := ⟨rfl, .inr rfl⟩
theorem litD7 : Statement .litD7 := ⟨rfl, .inr rfl⟩
theorem litD8 : Statement .litD8 := ⟨rfl, .inr rfl⟩
theorem litD9 : Statement .litD9 := ⟨rfl, .inr rfl⟩
theorem litDA : Statement .litDA := ⟨rfl, .inr rfl⟩
theorem litDB : Statement .litDB := ⟨rfl, .inr rfl⟩
theorem litDC : Statement .litDC := ⟨rfl, .inr rfl⟩
theorem litDD : Statement .litDD := ⟨rfl, .inr rfl⟩
theorem litDE : Statement .litDE := ⟨rfl, .inr rfl⟩
theorem litDF : Statement .litDF := ⟨rfl, .inr rfl⟩
theorem litE0 : Statement .litE0 := ⟨rfl, .inr rfl⟩
theorem litE1 : Statement .litE1 := ⟨rfl, .inr rfl⟩
theorem litE2 : Statement .litE2 := ⟨rfl, .inr rfl⟩
theorem litE3 : Statement .litE3 := ⟨rfl, .inr rfl⟩
theorem litE4 : Statement .litE4 := ⟨rfl, .inr rfl⟩
theorem litE5 : Statement .litE5 := ⟨rfl, .inr rfl⟩
theorem litE6 : Statement .litE6 := ⟨rfl, .inr rfl⟩
theorem litE7 : Statement .litE7 := ⟨rfl, .inr rfl⟩
theorem litE8 : Statement .litE8 := ⟨rfl, .inr rfl⟩
theorem litE9 : Statement .litE9 := ⟨rfl, .inr rfl⟩
theorem litEA : Statement .litEA := ⟨rfl, .inr rfl⟩
theorem litEB : Statement .litEB := ⟨rfl, .inr rfl⟩
theorem litEC : Statement .litEC := ⟨rfl, .inr rfl⟩
theorem litED : Statement .litED := ⟨rfl, .inr rfl⟩
theorem litEE : Statement .litEE := ⟨rfl, .inr rfl⟩
theorem litEF : Statement .litEF := ⟨rfl, .inr rfl⟩
theorem litF0 : Statement .litF0 := ⟨rfl, .inr rfl⟩
theorem litF1 : Statement .litF1 := ⟨rfl, .inr rfl⟩
theorem litF2 : Statement .litF2 := ⟨rfl, .inr rfl⟩
theorem litF3 : Statement .litF3 := ⟨rfl, .inr rfl⟩
theorem litF4 : Statement .litF4 := ⟨rfl, .inr rfl⟩
theorem litF5 : Statement .litF5 := ⟨rfl, .inr rfl⟩
theorem litF6 : Statement .litF6 := ⟨rfl, .inr rfl⟩
theorem litF7 : Statement .litF7 := ⟨rfl, .inr rfl⟩
theorem litF8 : Statement .litF8 := ⟨rfl, .inr rfl⟩
theorem litF9 : Statement .litF9 := ⟨rfl, .inr rfl⟩
theorem litFA : Statement .litFA := ⟨rfl, .inr rfl⟩
theorem litFB : Statement .litFB := ⟨rfl, .inr rfl⟩
theorem litFC : Statement .litFC := ⟨rfl, .inr rfl⟩
theorem litFD : Statement .litFD := ⟨rfl, .inr rfl⟩
theorem litFE : Statement .litFE := ⟨rfl, .inr rfl⟩
theorem litFF : Statement .litFF := ⟨rfl, .inr rfl⟩

end Sys2Proof.Laws.Head
end

