-- ==== Sys2Proof/Tests/Slice0.lean ====
section
/-! SUPPORT. Tests of the model against words and results that the spec gives, and for every statement with hypotheses a state and
operands that meet them. -/

namespace Sys2Proof.Tests

-- One theorem after another: each is a computation in the kernel, and many at once would fill the memory.
set_option Elab.async false

open Sys2Proof Sys2Proof.Machine

/-! ### Helpers -/

/-- A stream in IMEM of an engine of width `aw`, started (00_scope R5, 70 R312). -/
def loadedAt (aw : Nat) (bytes : List Byte) (cap : Nat) : State :=
  State.start { State.resetAt aw with
    imem := Memory.writeBytes [] 0 bytes
    inLen := BitVec.ofNat aw bytes.length
    outCap := BitVec.ofNat aw cap }

/-- The same at the default width. -/
def loaded (bytes : List Byte) (cap : Nat) : State := loadedAt 32 bytes cap

/-- An output of some bytes, with a capacity and the length of the match in progress. -/
def written (bytes : List Byte) (cap len : Nat) : State :=
  { State.reset with
    omem := Memory.writeBytes [] 0 bytes
    outPos := BitVec.ofNat 32 bytes.length
    outCap := BitVec.ofNat 32 cap
    fsm := .symbol
    matchLen := BitVec.ofNat 9 len }

/-- The run decoder at an index, the entry before it given and 9 elsewhere. -/
def atIndex (idx total : Nat) (v : BitVec 4) : State :=
  { State.reset with
    idx := BitVec.ofNat 9 idx
    total := BitVec.ofNat 9 total
    lens := (Vector.replicate Config.CAP_LENS 9).setIfInBounds (idx - 1) v
    fsm := .dynLengths }

/-- The answer is a next state with this property. -/
def nextWith (r : Result) (p : State → Bool) : Bool :=
  match r with
  | .next t => p t
  | .fault _ => false
  | .refused _ => false

theorem exists_of_nextWith {r : Result} {p : State → Bool} (h : nextWith r p = true) : ∃ t, r = .next t ∧ p t = true := by
  cases r with
  | next t => exact ⟨t, rfl, h⟩
  | fault _ => cases h
  | refused _ => cases h

/-- The output of a state, from address 0 to `out_pos`. -/
def output (s : State) : List Byte := Memory.readBytes s.omem 0 s.outPos.toNat

/-! ### Well-formedness: one ill-formed term for each check -/

theorem test_wf_dyn : Instr.wf (.dynhdr 0 0 0 [1, 0, 0]) = false ∧ Instr.wf (.dynhdr 0 0 0 [1, 0, 0, 0]) = true := by decide

theorem test_wf_cl : Head.wf (.cl 19 0) = false ∧ Head.wf (.cl 16 4) = false ∧ Head.wf (.cl 15 1) = false ∧
    Head.wf (.cl 18 127) = true := by decide

theorem test_wf_ll : Head.wf (.ll 288 0) = false ∧ Head.wf (.ll 265 2) = false ∧ Head.wf (.ll 285 1) = false ∧
    Head.wf (.ll 284 31) = true := by decide

theorem test_wf_dist : Head.wf (.dist 32 0) = false ∧ Head.wf (.dist 3 1) = false ∧ Head.wf (.dist 29 8192) = false ∧
    Head.wf (.dist 29 8191) = true := by decide

/-! ### Decoding: every element from the words of the spec -/

/-- 30 R91, opcode_table: the three stream bits of each header. -/
theorem test_decode_headers :
    decodeElement listSource .header [true, false, false] = .ok (.blockStored 1) [] ∧
    decodeElement listSource .header [false, true, false] = .ok (.blockFixed 0) [] ∧
    decodeElement listSource .header [true, false, true] = .ok (.blockDynamic 1) [] ∧
    decodeElement listSource .header [false, true, true] = .ok (.blockReserved 0) [] := by decide +kernel

/-- 95 S1: the stored body after five pad bits. -/
theorem test_decode_stored :
    decodeElement listSource .stored ([false, false, true, false, false] ++ bitsOfBytes [0x05, 0x00, 0xfa, 0xff, 0x48]) =
      .ok (.storedBody 5 0xfffa) (bitsOfBytes [0x48]) := by decide +kernel

/-- 95 E7a: `05 c0 03 01 00 00 00 00 20`, the dynamic header from stream bit 3: HLIT 0, HDIST 0, HCLEN 14, `16:1`, `18:2`, `1:2`. -/
theorem test_decode_dynhdr :
    decodeElement listSource .dynHeader ((bitsOfBytes [0x05, 0xc0, 0x03, 0x01, 0x00, 0x00, 0x00, 0x00, 0x20]).drop 3) =
      .ok (.dynhdr 0 0 14 [1, 0, 2, 0, 0, 0, 0, 0, 0, 0, 0, 0, 0, 0, 0, 0, 0, 2]) [false] := by decide +kernel

/-- The code-length symbols with the extra field 1, in a table of nineteen 5-bit codes: the code of symbol `c` is `c` (41 R154). -/
def clWords : List (Nat × Nat × Instr) :=
  [(5, 0x00, .cl0), (5, 0x01, .cl1), (5, 0x02, .cl2), (5, 0x03, .cl3), (5, 0x04, .cl4), (5, 0x05, .cl5), (5, 0x06, .cl6),
   (5, 0x07, .cl7), (5, 0x08, .cl8), (5, 0x09, .cl9), (5, 0x0a, .cl10), (5, 0x0b, .cl11), (5, 0x0c, .cl12), (5, 0x0d, .cl13),
   (5, 0x0e, .cl14), (5, 0x0f, .cl15), (7, 0x42, .clRepPrev 1), (8, 0x8c, .clRepZ3 1), (12, 0x940, .clRepZ11 1)]

theorem test_decode_code_lengths : ∀ r ∈ clWords,
    decodeElement listSource (.codeLen (List.replicate 19 5) false) (tableWordBits r.1 r.2.1) = .ok r.2.2 [] := by
  decide +kernel

/-- 43 R223: with no length before it, the extra bits of symbol 16 stay in the stream. -/
theorem test_decode_repeat_first :
    decodeElement listSource (.codeLen (List.replicate 19 5) true) [true, false, false, false, false, true, false] =
      .ok (.clRepPrev 0) [true, false] := by decide +kernel

/-- 30 R101: the fixed literal/length codes. -/
def fixedCodes : List Code :=
  (List.range 144).map (fun s => ⟨s, 8, 48 + s⟩) ++ ((List.range 112).map (fun k => ⟨144 + k, 9, 400 + k⟩) ++
    ((List.range 24).map (fun k => ⟨256 + k, 7, k⟩) ++ (List.range 8).map (fun k => ⟨280 + k, 8, 192 + k⟩)))

theorem test_fixed_codes : codes fixedLl 15 = fixedCodes := by decide +kernel

/- The rows of spec/opcode_table.json for a fixed block: bits, word, element, the extra field 1 where there is one. -/
def llWords0 : List (Nat × Nat × Instr) :=
  [
   (8, 0x30, .lit00), (8, 0x31, .lit01), (8, 0x32, .lit02), (8, 0x33, .lit03),
   (8, 0x34, .lit04), (8, 0x35, .lit05), (8, 0x36, .lit06), (8, 0x37, .lit07),
   (8, 0x38, .lit08), (8, 0x39, .lit09), (8, 0x3a, .lit0A), (8, 0x3b, .lit0B),
   (8, 0x3c, .lit0C), (8, 0x3d, .lit0D), (8, 0x3e, .lit0E), (8, 0x3f, .lit0F),
   (8, 0x40, .lit10), (8, 0x41, .lit11), (8, 0x42, .lit12), (8, 0x43, .lit13),
   (8, 0x44, .lit14), (8, 0x45, .lit15), (8, 0x46, .lit16), (8, 0x47, .lit17)]

def llWords1 : List (Nat × Nat × Instr) :=
  [
   (8, 0x48, .lit18), (8, 0x49, .lit19), (8, 0x4a, .lit1A), (8, 0x4b, .lit1B),
   (8, 0x4c, .lit1C), (8, 0x4d, .lit1D), (8, 0x4e, .lit1E), (8, 0x4f, .lit1F),
   (8, 0x50, .lit20), (8, 0x51, .lit21), (8, 0x52, .lit22), (8, 0x53, .lit23),
   (8, 0x54, .lit24), (8, 0x55, .lit25), (8, 0x56, .lit26), (8, 0x57, .lit27),
   (8, 0x58, .lit28), (8, 0x59, .lit29), (8, 0x5a, .lit2A), (8, 0x5b, .lit2B),
   (8, 0x5c, .lit2C), (8, 0x5d, .lit2D), (8, 0x5e, .lit2E), (8, 0x5f, .lit2F)]

def llWords2 : List (Nat × Nat × Instr) :=
  [
   (8, 0x60, .lit30), (8, 0x61, .lit31), (8, 0x62, .lit32), (8, 0x63, .lit33),
   (8, 0x64, .lit34), (8, 0x65, .lit35), (8, 0x66, .lit36), (8, 0x67, .lit37),
   (8, 0x68, .lit38), (8, 0x69, .lit39), (8, 0x6a, .lit3A), (8, 0x6b, .lit3B),
   (8, 0x6c, .lit3C), (8, 0x6d, .lit3D), (8, 0x6e, .lit3E), (8, 0x6f, .lit3F),
   (8, 0x70, .lit40), (8, 0x71, .lit41), (8, 0x72, .lit42), (8, 0x73, .lit43),
   (8, 0x74, .lit44), (8, 0x75, .lit45), (8, 0x76, .lit46), (8, 0x77, .lit47)]

def llWords3 : List (Nat × Nat × Instr) :=
  [
   (8, 0x78, .lit48), (8, 0x79, .lit49), (8, 0x7a, .lit4A), (8, 0x7b, .lit4B),
   (8, 0x7c, .lit4C), (8, 0x7d, .lit4D), (8, 0x7e, .lit4E), (8, 0x7f, .lit4F),
   (8, 0x80, .lit50), (8, 0x81, .lit51), (8, 0x82, .lit52), (8, 0x83, .lit53),
   (8, 0x84, .lit54), (8, 0x85, .lit55), (8, 0x86, .lit56), (8, 0x87, .lit57),
   (8, 0x88, .lit58), (8, 0x89, .lit59), (8, 0x8a, .lit5A), (8, 0x8b, .lit5B),
   (8, 0x8c, .lit5C), (8, 0x8d, .lit5D), (8, 0x8e, .lit5E), (8, 0x8f, .lit5F)]

def llWords4 : List (Nat × Nat × Instr) :=
  [
   (8, 0x90, .lit60), (8, 0x91, .lit61), (8, 0x92, .lit62), (8, 0x93, .lit63),
   (8, 0x94, .lit64), (8, 0x95, .lit65), (8, 0x96, .lit66), (8, 0x97, .lit67),
   (8, 0x98, .lit68), (8, 0x99, .lit69), (8, 0x9a, .lit6A), (8, 0x9b, .lit6B),
   (8, 0x9c, .lit6C), (8, 0x9d, .lit6D), (8, 0x9e, .lit6E), (8, 0x9f, .lit6F),
   (8, 0xa0, .lit70), (8, 0xa1, .lit71), (8, 0xa2, .lit72), (8, 0xa3, .lit73),
   (8, 0xa4, .lit74), (8, 0xa5, .lit75), (8, 0xa6, .lit76), (8, 0xa7, .lit77)]

def llWords5 : List (Nat × Nat × Instr) :=
  [
   (8, 0xa8, .lit78), (8, 0xa9, .lit79), (8, 0xaa, .lit7A), (8, 0xab, .lit7B),
   (8, 0xac, .lit7C), (8, 0xad, .lit7D), (8, 0xae, .lit7E), (8, 0xaf, .lit7F),
   (8, 0xb0, .lit80), (8, 0xb1, .lit81), (8, 0xb2, .lit82), (8, 0xb3, .lit83),
   (8, 0xb4, .lit84), (8, 0xb5, .lit85), (8, 0xb6, .lit86), (8, 0xb7, .lit87),
   (8, 0xb8, .lit88), (8, 0xb9, .lit89), (8, 0xba, .lit8A), (8, 0xbb, .lit8B),
   (8, 0xbc, .lit8C), (8, 0xbd, .lit8D), (8, 0xbe, .lit8E), (8, 0xbf, .lit8F)]

def llWords6 : List (Nat × Nat × Instr) :=
  [
   (9, 0x190, .lit90), (9, 0x191, .lit91), (9, 0x192, .lit92), (9, 0x193, .lit93),
   (9, 0x194, .lit94), (9, 0x195, .lit95), (9, 0x196, .lit96), (9, 0x197, .lit97),
   (9, 0x198, .lit98), (9, 0x199, .lit99), (9, 0x19a, .lit9A), (9, 0x19b, .lit9B),
   (9, 0x19c, .lit9C), (9, 0x19d, .lit9D), (9, 0x19e, .lit9E), (9, 0x19f, .lit9F),
   (9, 0x1a0, .litA0), (9, 0x1a1, .litA1), (9, 0x1a2, .litA2), (9, 0x1a3, .litA3),
   (9, 0x1a4, .litA4), (9, 0x1a5, .litA5), (9, 0x1a6, .litA6), (9, 0x1a7, .litA7)]

def llWords7 : List (Nat × Nat × Instr) :=
  [
   (9, 0x1a8, .litA8), (9, 0x1a9, .litA9), (9, 0x1aa, .litAA), (9, 0x1ab, .litAB),
   (9, 0x1ac, .litAC), (9, 0x1ad, .litAD), (9, 0x1ae, .litAE), (9, 0x1af, .litAF),
   (9, 0x1b0, .litB0), (9, 0x1b1, .litB1), (9, 0x1b2, .litB2), (9, 0x1b3, .litB3),
   (9, 0x1b4, .litB4), (9, 0x1b5, .litB5), (9, 0x1b6, .litB6), (9, 0x1b7, .litB7),
   (9, 0x1b8, .litB8), (9, 0x1b9, .litB9), (9, 0x1ba, .litBA), (9, 0x1bb, .litBB),
   (9, 0x1bc, .litBC), (9, 0x1bd, .litBD), (9, 0x1be, .litBE), (9, 0x1bf, .litBF)]

def llWords8 : List (Nat × Nat × Instr) :=
  [
   (9, 0x1c0, .litC0), (9, 0x1c1, .litC1), (9, 0x1c2, .litC2), (9, 0x1c3, .litC3),
   (9, 0x1c4, .litC4), (9, 0x1c5, .litC5), (9, 0x1c6, .litC6), (9, 0x1c7, .litC7),
   (9, 0x1c8, .litC8), (9, 0x1c9, .litC9), (9, 0x1ca, .litCA), (9, 0x1cb, .litCB),
   (9, 0x1cc, .litCC), (9, 0x1cd, .litCD), (9, 0x1ce, .litCE), (9, 0x1cf, .litCF),
   (9, 0x1d0, .litD0), (9, 0x1d1, .litD1), (9, 0x1d2, .litD2), (9, 0x1d3, .litD3),
   (9, 0x1d4, .litD4), (9, 0x1d5, .litD5), (9, 0x1d6, .litD6), (9, 0x1d7, .litD7)]

def llWords9 : List (Nat × Nat × Instr) :=
  [
   (9, 0x1d8, .litD8), (9, 0x1d9, .litD9), (9, 0x1da, .litDA), (9, 0x1db, .litDB),
   (9, 0x1dc, .litDC), (9, 0x1dd, .litDD), (9, 0x1de, .litDE), (9, 0x1df, .litDF),
   (9, 0x1e0, .litE0), (9, 0x1e1, .litE1), (9, 0x1e2, .litE2), (9, 0x1e3, .litE3),
   (9, 0x1e4, .litE4), (9, 0x1e5, .litE5), (9, 0x1e6, .litE6), (9, 0x1e7, .litE7),
   (9, 0x1e8, .litE8), (9, 0x1e9, .litE9), (9, 0x1ea, .litEA), (9, 0x1eb, .litEB),
   (9, 0x1ec, .litEC), (9, 0x1ed, .litED), (9, 0x1ee, .litEE), (9, 0x1ef, .litEF)]

def llWords10 : List (Nat × Nat × Instr) :=
  [
   (9, 0x1f0, .litF0), (9, 0x1f1, .litF1), (9, 0x1f2, .litF2), (9, 0x1f3, .litF3),
   (9, 0x1f4, .litF4), (9, 0x1f5, .litF5), (9, 0x1f6, .litF6), (9, 0x1f7, .litF7),
   (9, 0x1f8, .litF8), (9, 0x1f9, .litF9), (9, 0x1fa, .litFA), (9, 0x1fb, .litFB),
   (9, 0x1fc, .litFC), (9, 0x1fd, .litFD), (9, 0x1fe, .litFE), (9, 0x1ff, .litFF),
   (7, 0x0, .eob), (7, 0x1, .len257), (7, 0x2, .len258), (7, 0x3, .len259),
   (7, 0x4, .len260), (7, 0x5, .len261), (7, 0x6, .len262), (7, 0x7, .len263)]

def llWords11 : List (Nat × Nat × Instr) :=
  [
   (7, 0x8, .len264), (8, 0x13, .len265 1), (8, 0x15, .len266 1), (8, 0x17, .len267 1),
   (8, 0x19, .len268 1), (9, 0x36, .len269 1), (9, 0x3a, .len270 1), (9, 0x3e, .len271 1),
   (9, 0x42, .len272 1), (10, 0x8c, .len273 1), (10, 0x94, .len274 1), (10, 0x9c, .len275 1),
   (10, 0xa4, .len276 1), (11, 0x158, .len277 1), (11, 0x168, .len278 1), (11, 0x178, .len279 1),
   (12, 0xc08, .len280 1), (13, 0x1830, .len281 1), (13, 0x1850, .len282 1), (13, 0x1870, .len283 1),
   (13, 0x1890, .len284 1), (8, 0xc5, .len285), (8, 0xc6, .llRsvd286), (8, 0xc7, .llRsvd287)]

def dWords0 : List (Nat × Nat × Instr) :=
  [
   (5, 0x0, .dist0), (5, 0x1, .dist1), (5, 0x2, .dist2), (5, 0x3, .dist3),
   (6, 0x9, .dist4 1), (6, 0xb, .dist5 1), (7, 0x1a, .dist6 1), (7, 0x1e, .dist7 1),
   (8, 0x44, .dist8 1), (8, 0x4c, .dist9 1), (9, 0xa8, .dist10 1), (9, 0xb8, .dist11 1),
   (10, 0x190, .dist12 1), (10, 0x1b0, .dist13 1), (11, 0x3a0, .dist14 1), (11, 0x3e0, .dist15 1),
   (12, 0x840, .dist16 1), (12, 0x8c0, .dist17 1), (13, 0x1280, .dist18 1), (13, 0x1380, .dist19 1),
   (14, 0x2900, .dist20 1), (14, 0x2b00, .dist21 1), (15, 0x5a00, .dist22 1), (15, 0x5e00, .dist23 1),
   (16, 0xc400, .dist24 1), (16, 0xcc00, .dist25 1), (17, 0x1a800, .dist26 1), (17, 0x1b800, .dist27 1),
   (18, 0x39000, .dist28 1), (18, 0x3b000, .dist29 1), (5, 0x1e, .dRsvd30), (5, 0x1f, .dRsvd31)]

theorem test_decode_literals_0 : ∀ r ∈ llWords0,
    decodeElement listSource (.litLen fixedLl) (tableWordBits r.1 r.2.1) = .ok r.2.2 [] := by
  simp only [decodeElement, decodeLitLen, decodeSymbol, test_fixed_codes]; decide +kernel

theorem test_decode_literals_1 : ∀ r ∈ llWords1,
    decodeElement listSource (.litLen fixedLl) (tableWordBits r.1 r.2.1) = .ok r.2.2 [] := by
  simp only [decodeElement, decodeLitLen, decodeSymbol, test_fixed_codes]; decide +kernel

theorem test_decode_literals_2 : ∀ r ∈ llWords2,
    decodeElement listSource (.litLen fixedLl) (tableWordBits r.1 r.2.1) = .ok r.2.2 [] := by
  simp only [decodeElement, decodeLitLen, decodeSymbol, test_fixed_codes]; decide +kernel

theorem test_decode_literals_3 : ∀ r ∈ llWords3,
    decodeElement listSource (.litLen fixedLl) (tableWordBits r.1 r.2.1) = .ok r.2.2 [] := by
  simp only [decodeElement, decodeLitLen, decodeSymbol, test_fixed_codes]; decide +kernel

theorem test_decode_literals_4 : ∀ r ∈ llWords4,
    decodeElement listSource (.litLen fixedLl) (tableWordBits r.1 r.2.1) = .ok r.2.2 [] := by
  simp only [decodeElement, decodeLitLen, decodeSymbol, test_fixed_codes]; decide +kernel

theorem test_decode_literals_5 : ∀ r ∈ llWords5,
    decodeElement listSource (.litLen fixedLl) (tableWordBits r.1 r.2.1) = .ok r.2.2 [] := by
  simp only [decodeElement, decodeLitLen, decodeSymbol, test_fixed_codes]; decide +kernel

theorem test_decode_literals_6 : ∀ r ∈ llWords6,
    decodeElement listSource (.litLen fixedLl) (tableWordBits r.1 r.2.1) = .ok r.2.2 [] := by
  simp only [decodeElement, decodeLitLen, decodeSymbol, test_fixed_codes]; decide +kernel

theorem test_decode_literals_7 : ∀ r ∈ llWords7,
    decodeElement listSource (.litLen fixedLl) (tableWordBits r.1 r.2.1) = .ok r.2.2 [] := by
  simp only [decodeElement, decodeLitLen, decodeSymbol, test_fixed_codes]; decide +kernel

theorem test_decode_literals_8 : ∀ r ∈ llWords8,
    decodeElement listSource (.litLen fixedLl) (tableWordBits r.1 r.2.1) = .ok r.2.2 [] := by
  simp only [decodeElement, decodeLitLen, decodeSymbol, test_fixed_codes]; decide +kernel

theorem test_decode_literals_9 : ∀ r ∈ llWords9,
    decodeElement listSource (.litLen fixedLl) (tableWordBits r.1 r.2.1) = .ok r.2.2 [] := by
  simp only [decodeElement, decodeLitLen, decodeSymbol, test_fixed_codes]; decide +kernel

theorem test_decode_literals_and_lengths : ∀ r ∈ llWords10,
    decodeElement listSource (.litLen fixedLl) (tableWordBits r.1 r.2.1) = .ok r.2.2 [] := by
  simp only [decodeElement, decodeLitLen, decodeSymbol, test_fixed_codes]; decide +kernel

theorem test_decode_lengths : ∀ r ∈ llWords11,
    decodeElement listSource (.litLen fixedLl) (tableWordBits r.1 r.2.1) = .ok r.2.2 [] := by
  simp only [decodeElement, decodeLitLen, decodeSymbol, test_fixed_codes]; decide +kernel

theorem test_decode_distances : ∀ r ∈ dWords0,
    decodeElement listSource (.distance fixedD) (tableWordBits r.1 r.2.1) = .ok r.2.2 [] := by decide +kernel

/-- 30 R112: `MATCH len=258 dist=32768`, and the least match. -/
theorem test_match_notation :
    matchElements 258 32768 = (.len285, .dist29 8191) ∧ matchElements 3 1 = (.len257, .dist0) ∧
    matchElements 10 4 = (.len264, .dist3) := by decide +kernel

/-- 95 E7a: the notation's dynamic header. -/
theorem test_dynhdr_notation :
    dynHeaderOf 257 1 [0, 2, 0, 0, 0, 0, 0, 0, 0, 0, 0, 0, 0, 0, 0, 0, 1, 0, 2] =
      .dynhdr 0 0 14 [1, 0, 2, 0, 0, 0, 0, 0, 0, 0, 0, 0, 0, 0, 0, 0, 0, 2] := by decide +kernel

/-! ### BitReader and builder vectors -/

/-- 95 B1, B3, B5: calls one after another. -/
theorem test_read_bits :
    (match readBits stateSource 3 .lsb (loaded [0xb5, 0x3c] 0) with
     | .ok a s => (match readBits stateSource 3 .msb s with
       | .ok b t => (match readBits stateSource 4 .lsb t with
         | .ok c u => decide (a = 5 ∧ b = 3 ∧ c = 2 ∧ u.cur = ⟨2, 0b001111, 6⟩)
         | .err _ _ => false)
       | .err _ _ => false)
     | .err _ _ => false) = true := by decide +kernel

theorem test_read_after_align :
    (match readBits stateSource 3 .lsb (loaded [0x4b, 0x34, 0x12, 0xff] 0) with
     | .ok _ s => (match readBits stateSource 16 .lsb (stateSource.align s) with
       | .ok v t => decide (v = 0x1234 ∧ t.cur = ⟨3, 0, 0⟩)
       | .err _ _ => false)
     | .err _ _ => false) = true := by decide +kernel

theorem test_read_past_end :
    (match readBits stateSource 17 .lsb (loaded [0xa5, 0x34] 0) with
     | .ok _ _ => false
     | .err e t => decide (e = .unexpectedEndOfInput ∧ t.cur = ⟨2, 0, 0⟩)) = true := by decide +kernel

/-- 95 T2, T9, T13 to T17. -/
theorem test_codes :
    (codes [3, 3, 3, 3, 3, 2, 4, 4] 15).map Code.code = [2, 3, 4, 5, 6, 0, 14, 15] ∧
    (codes [1, 15, 15] 15).map Code.code = [0, 16384, 16385] ∧
    overSubscribed [1, 1, 1] 15 = true ∧ overSubscribed [1, 1, 2] 15 = true ∧ overSubscribed [2, 2, 2, 2, 1] 15 = true ∧
    overSubscribed [1, 2, 2, 2] 7 = true ∧ overSubscribed (List.replicate 16 4 ++ [5]) 15 = true ∧
    overSubscribed [2, 2] 15 = false := by decide +kernel

/-- 41 R159: the trie of `{3, 0, 3, 2}`. -/
theorem test_trie :
    buildTrie [3, 0, 3, 2] 15 = some { root := some 0, nodes :=
      [.internal 1 0 4 3, .leaf 0 0 0, .leaf 0 0 2, .internal 0 0 1 2, .leaf 0 0 3] } := by decide +kernel

/-- 95 K1, K4, K5, K7, through the codes and through the trie. -/
theorem test_decode_symbol :
    decodeSymbol listSource [2, 1, 3, 3] 15 [true, true, false, true] = .ok 2 [true] ∧
    decodeSymbol listSource [0, 0, 1] 15 [true, false] = .err .incompleteHuffmanTable [false] ∧
    decodeSymbol listSource [0, 0, 0] 15 [] = .err .incompleteHuffmanTable [] ∧
    decodeSymbol listSource [1, 0, 3] 15 [true, false, true, true] = .err .incompleteHuffmanTable [true] ∧
    (buildTrie [1, 0, 3] 15).map (fun t => t.decode listSource [true, false, true, true]) =
      some (.err .incompleteHuffmanTable [true]) := by decide +kernel

/-! ### One step -/

/-- 95 2.3: `05`. -/
theorem test_step_header :
    nextWith (step (loaded [0x05] 0))
      (fun t => t.cur == ⟨1, 0, 5⟩ && t.bfinal == 1 && t.btype == 2 && t.fsm == .dynHeader) = true := by decide +kernel

/-- 95 E1a: `07`, `InvalidBlockType`, `IN_POS = 1`. -/
theorem test_step_reserved :
    nextWith (step (loaded [0x07] 0)) (fun t => t.err == some .invalidBlockType && t.cur.inPos == 1 && t.bfinal == 1) = true := by
  decide +kernel

/-- 95 S1, the step after the header: five bytes. -/
theorem test_step_stored :
    nextWith (step { loaded [0x01, 0x05, 0x00, 0xfa, 0xff, 0x48, 0x65, 0x6c, 0x6c, 0x6f] 5 with
        cur := ⟨1, 0, 5⟩, bfinal := 1, fsm := .stored })
      (fun t => t.fsm == .done && t.cur.inPos == 10 && output t == [0x48, 0x65, 0x6c, 0x6c, 0x6f]) = true := by decide +kernel

/-- 95 E4c, E6c, E8b: the order of a stored body's faults. -/
theorem test_stored_faults :
    nextWith (exec (.storedBody 5 0xfffb) (written [] 4 0)) (fun t => t.err == some .storedLengthMismatch) = true ∧
    nextWith (exec (.storedBody 5 0xfffa) (written [] 4 0)) (fun t => t.err == some .unexpectedEndOfInput) = true ∧
    nextWith (exec (.storedBody 5 0xfffa) { written [] 4 0 with inLen := 5 })
      (fun t => t.err == some .outputBufferExhausted && t.outPos == 0) = true := by decide +kernel

/-- 95 E7a: the dynamic header step, then symbol 16 at `idx = 0`, cursor at stream bit 72. -/
theorem test_step_dynhdr :
    nextWith (andThen (step { loaded [0x05, 0xc0, 0x03, 0x01, 0x00, 0x00, 0x00, 0x00, 0x20, 0x00] 4 with
        cur := ⟨1, 0, 5⟩, bfinal := 1, btype := 2, fsm := .dynHeader }) step)
      (fun t => t.err == some .malformedCodeLengthRun && t.cur == ⟨9, 0, 0⟩ && t.total == 258 && t.nLl == 257 &&
        t.clLen.toList.getD 16 0 == 1) = true := by decide +kernel

/-- 95 E2a: the code-length table is over-subscribed. -/
theorem test_dynhdr_over_subscribed :
    nextWith (exec (.dynhdr 0 0 14 [0, 0, 0, 1, 0, 0, 0, 0, 0, 0, 0, 0, 0, 0, 0, 1, 0, 1]) State.reset)
      (fun t => t.err == some .overSubscribedHuffmanTable && t.fsm == .error) = true := by decide +kernel

/-- 42 R191, 30 R100: the lengths of a fixed block; 95 2.2: the trie of its distance table has 63 nodes. -/
theorem test_fixed_lengths :
    fixedLens.toList.getD 143 0 = 8 ∧ fixedLens.toList.getD 144 0 = 9 ∧ fixedLens.toList.getD 255 0 = 9 ∧
    fixedLens.toList.getD 256 0 = 7 ∧ fixedLens.toList.getD 279 0 = 7 ∧ fixedLens.toList.getD 280 0 = 8 ∧
    fixedLens.toList.getD 287 0 = 8 ∧ fixedLens.toList.getD 288 0 = 5 ∧ fixedLens.toList.getD 319 0 = 5 ∧
    (buildTrie fixedD 15).map Trie.used = some 63 := by decide +kernel

/-- 42 R197: tables `{1, 1}` and `{1, 1, 1}`: the first build succeeds, the second is over-subscribed. -/
theorem test_dyn_build :
    nextWith (step { State.reset with fsm := .dynBuild, nLl := 2, nD := 3, lens := fillVector 5 0 1 State.reset.lens })
      (fun t => t.err == some .overSubscribedHuffmanTable && t.llTrie.used == 3 && t.dTrie == Trie.empty) = true ∧
    nextWith (step { State.reset with fsm := .dynBuild, nLl := 2, nD := 1, lens := fillVector 5 0 1 State.reset.lens })
      (fun t => t.fsm == .symbol && t.llTrie.used == 3 && t.dTrie.used == 1) = true := by decide +kernel

/-- 95 L1, L2, L5, L6, L7, L8, L9. -/
theorem test_code_length_runs :
    nextWith (exec .cl7 (atIndex 0 258 9)) (fun t => t.lenAt 0 == 7 && t.idx == 1) = true ∧
    nextWith (exec (.clRepPrev 1) (atIndex 10 258 5))
      (fun t => t.lenAt 10 == 5 && t.lenAt 13 == 5 && t.lenAt 14 == 9 && t.idx == 14) = true ∧
    nextWith (exec (.clRepPrev 0) (atIndex 255 258 4)) (fun t => t.lenAt 257 == 4 && t.idx == 258 && t.fsm == .dynBuild) = true ∧
    nextWith (exec (.clRepPrev 1) (atIndex 255 258 4))
      (fun t => t.err == some .malformedCodeLengthRun && t.lenAt 255 == 9) = true ∧
    nextWith (exec (.clRepZ3 7) (atIndex 0 258 9)) (fun t => t.lenAt 9 == 0 && t.lenAt 10 == 9 && t.idx == 10) = true ∧
    nextWith (exec (.clRepZ11 127) (atIndex 0 258 9)) (fun t => t.idx == 138 && t.fsm == .dynLengths) = true ∧
    nextWith (exec (.clRepZ11 0) (atIndex 250 258 3)) (fun t => t.err == some .malformedCodeLengthRun) = true := by
  decide +kernel

/-- 42 R202: a literal, and one with no room (95 E6a). -/
theorem test_literal :
    nextWith (exec .lit41 (written [0x61] 2 0)) (fun t => output t == [0x61, 0x41]) = true ∧
    nextWith (exec .lit41 (written [0x61] 1 0)) (fun t => t.err == some .outputBufferExhausted && output t == [0x61]) = true := by
  decide +kernel

/-- 95 M1, M4, M5, M6, M7, M8, M9, M10: the distance half with the length held. -/
theorem test_match_copy :
    nextWith (exec .dist2 (written [0x61, 0x62, 0x63] 9 6))
      (fun t => output t == [0x61, 0x62, 0x63, 0x61, 0x62, 0x63, 0x61, 0x62, 0x63] && t.matchLen == 0) = true ∧
    nextWith (exec .dist3 (written [0x61, 0x62, 0x63, 0x64] 7 3))
      (fun t => output t == [0x61, 0x62, 0x63, 0x64, 0x61, 0x62, 0x63]) = true ∧
    nextWith (exec .dist0 (written [0x7a] 4 3)) (fun t => output t == [0x7a, 0x7a, 0x7a, 0x7a]) = true ∧
    nextWith (exec .dist1 (written [0x61, 0x62] 8 5)) (fun t => output t == [0x61, 0x62, 0x61, 0x62, 0x61, 0x62, 0x61]) = true ∧
    nextWith (exec .dist2 (written [0x61, 0x62] 8 3))
      (fun t => t.err == some .backReferenceOutOfRange && output t == [0x61, 0x62]) = true ∧
    nextWith (exec .dist1 (written [0x61, 0x62] 4 3))
      (fun t => t.err == some .outputBufferExhausted && output t == [0x61, 0x62]) = true ∧
    nextWith (exec .dist1 (written [0x61, 0x62] 5 3)) (fun t => output t == [0x61, 0x62, 0x61, 0x62, 0x61]) = true ∧
    nextWith (exec .dist0 (written [] 8 3)) (fun t => t.err == some .backReferenceOutOfRange) = true := by decide +kernel

/-- 30 R103, R104: a length with an extra field, and the two encodings of 258. -/
theorem test_lengths :
    nextWith (exec (.len281 31) State.reset) (fun t => t.matchLen == 162) = true ∧
    nextWith (exec .len285 State.reset) (fun t => t.matchLen == 258) = true ∧
    nextWith (exec (.len284 31) State.reset) (fun t => t.matchLen == 258) = true := by decide +kernel

/-- 95 S4: the symbol step of `4b 4c 4a 86 20 00` at stream bit 27: a length, its distance and the copy in one step. -/
theorem test_step_match :
    nextWith (step { loaded [0x4b, 0x4c, 0x4a, 0x86, 0x20, 0x00] 9 with
        cur := ⟨4, 0x10, 5⟩, fsm := .symbol, bfinal := 1, nLl := 288, nD := 32, lens := fixedLens,
        omem := Memory.writeBytes [] 0 [0x61, 0x62, 0x63], outPos := 3 })
      (fun t => t.fsm == .symbol && t.cur.bitIndex == 39 &&
        output t == [0x61, 0x62, 0x63, 0x61, 0x62, 0x63, 0x61, 0x62, 0x63]) = true := by decide +kernel

/-- 42 R205, R207, 95 E9a, E9b. -/
theorem test_reserved :
    nextWith (exec .llRsvd286 State.reset) (fun t => errValue t.err == 9) = true ∧
    nextWith (exec .dRsvd30 State.reset) (fun t => errValue t.err == 9) = true := by decide +kernel

/-! ### Host interface -/

/-- 95 H1. -/
theorem test_host_reset :
    (hostRead 1 State.reset).1 = 0 ∧ (hostRead 2 State.reset).1 = 0 ∧ (hostRead 5 State.reset).1 = 0 ∧
    (hostRead 6 State.reset).1 = 0 ∧ (hostRead 7 State.reset).1 = 0 := by decide +kernel

/-- 95 H2: the call up to BUSY. -/
theorem test_host_start :
    nextWith (andThen (hostLoadImem [0x73, 0x04, 0x00] State.reset) fun a => andThen (hostProvideOmem [0xee] a) fun b =>
        andThen (hostWrite 3 3 b) fun c => andThen (hostWrite 4 1 c) (hostWrite 0 1))
      (fun t => (hostRead 1 t).1 == 1 && t.fsm == .header && (hostRead 3 t).1 == 3) = true := by decide +kernel

/-- 95 H3, H4, 93 X2. -/
theorem test_host_ignored :
    hostWrite 0 2 State.reset = .next State.reset ∧ hostWrite 9 1 State.reset = .next State.reset ∧
    hostWrite 0 1 (loaded [0x03] 0) = .next (loaded [0x03] 0) ∧ hostWrite 3 7 (loaded [0x03] 0) = .next (loaded [0x03] 0) ∧
    hostWrite 0 1 State.reset = .refused .startBeforeLengths := ⟨rfl, rfl, rfl, rfl, rfl⟩

/-- 00_scope R5, 10_state R31: the length registers are as wide as the engine. -/
theorem test_host_width :
    nextWith (hostWrite 3 (2 ^ 17 + 5) (State.resetAt 17)) (fun t => t.inLen.toNat == 5) = true ∧
    nextWith (hostWrite 3 (2 ^ 17 + 5) State.reset) (fun t => t.inLen.toNat == 131077) = true := by decide +kernel

/-! ### For every statement with hypotheses, what meets them -/

/-- Cursor at stream bit 3 of two bytes. -/
def midByte : State := { loaded [0xb5, 0x3c] 4 with cur := ⟨1, 0b10110, 5⟩ }

theorem test_hyp_cursor : CursorInv (loaded [0xb5, 0x3c] 4) ∧ CursorInv midByte ∧ CursorInv (loaded [] 0) := by
  refine ⟨⟨?_, ?_, ?_⟩, ⟨?_, ?_, ?_⟩, ⟨?_, ?_, ?_⟩⟩ <;> decide +kernel

theorem test_hyp_ReadBitsReadsTheStream : CursorInv midByte ∧
    midByte.cur.bitIndex + 13 ≤ 8 * midByte.inLen.toNat ∧ 8 * midByte.inLen.toNat < midByte.cur.bitIndex + 14 :=
  ⟨test_hyp_cursor.2.1, by decide +kernel, by decide +kernel⟩

theorem test_hyp_AlignDropsTheResidualBits : CursorInv midByte ∧ midByte.cur.bitcnt ≠ 0 ∧
    midByte.cur.inPos.toNat < midByte.inLen.toNat ∧ CursorInv (loaded [0xb5, 0x3c] 4) ∧
    (loaded [0xb5, 0x3c] 4).cur.bitcnt = 0 :=
  ⟨test_hyp_cursor.2.1, by decide +kernel, by decide +kernel, test_hyp_cursor.1, by decide +kernel⟩

theorem test_hyp_OverSubscriptionIsTheKraftSum : LengthsFit [1, 2, 2] 2 ∧ kraftSum [1, 2, 2] 2 = 4 ∧
    LengthsFit [1, 1, 2] 2 ∧ kraftSum [1, 1, 2] 2 = 5 := by
  unfold LengthsFit; decide

theorem test_hyp_tables : LengthsFit [2, 1, 3, 3] 15 ∧ overSubscribed [2, 1, 3, 3] 15 = false ∧
    LengthsFit [1, 0, 3] 15 ∧ overSubscribed [1, 0, 3] 15 = false ∧
    LengthsFit [0, 0] 15 ∧ overSubscribed [0, 0] 15 = false := by
  unfold LengthsFit; decide +kernel

theorem test_hyp_StartCodesFollowTheRecurrence : LengthsFit [2, 1, 3, 3] 15 ∧ overSubscribed [2, 1, 3, 3] 15 = false ∧
    1 ≤ 1 ∧ 1 ≤ 15 ∧ 1 ≤ 15 ∧ 15 ≤ 15 ∧ (startCodes [2, 1, 3, 3] 15).getD 3 0 = 6 :=
  ⟨test_hyp_tables.1, test_hyp_tables.2.1, by decide, by decide, by decide, by decide, by decide +kernel⟩

theorem test_hyp_CodesHaveTheClosedForm : LengthsFit [2, 1, 3, 3] 15 ∧ (⟨3, 3, 7⟩ : Code) ∈ codes [2, 1, 3, 3] 15 :=
  ⟨test_hyp_tables.1, by decide +kernel⟩

theorem test_hyp_CodesArePrefixFreeAndOrdered : LengthsFit [2, 1, 3, 3] 15 ∧ overSubscribed [2, 1, 3, 3] 15 = false ∧
    (⟨1, 1, 0⟩ : Code) ∈ codes [2, 1, 3, 3] 15 ∧ (⟨2, 3, 6⟩ : Code) ∈ codes [2, 1, 3, 3] 15 ∧
    (⟨3, 3, 7⟩ : Code) ∈ codes [2, 1, 3, 3] 15 :=
  ⟨test_hyp_tables.1, test_hyp_tables.2.1, by decide +kernel, by decide +kernel, by decide +kernel⟩

theorem test_hyp_DecodeReadsBackEveryCode : LengthsFit [2, 1, 3, 3] 15 ∧ overSubscribed [2, 1, 3, 3] 15 = false ∧
    (⟨2, 3, 6⟩ : Code) ∈ codes [2, 1, 3, 3] 15 := ⟨test_hyp_tables.1, test_hyp_tables.2.1, by decide +kernel⟩

theorem test_hyp_DecodeStopsAtTheFirstDeadEnd : LengthsFit [1, 0, 3] 15 ∧ overSubscribed [1, 0, 3] 15 = false ∧
    (⟨2, 3, 4⟩ : Code) ∈ codes [1, 0, 3] 15 ∧ [true] <+: Code.bits ⟨2, 3, 4⟩ ∧ [true] ≠ Code.bits ⟨2, 3, 4⟩ ∧
    (∀ d ∈ codes [1, 0, 3] 15, ¬ ([true] ++ [true]) <+: d.bits) ∧ (∀ l ∈ [0, 0], l = 0) :=
  ⟨test_hyp_tables.2.2.1, test_hyp_tables.2.2.2.1, by decide +kernel, by decide +kernel, by decide +kernel, by decide +kernel,
    by decide⟩

theorem test_hyp_TrieDecodesLikeTheCodes : LengthsFit [2, 1, 3, 3] 15 ∧ [2, 1, 3, 3].length ≤ 288 ∧
    (buildTrie [2, 1, 3, 3] 15).isSome = true ∧ (buildTrie [0, 0] 15).isSome = true :=
  ⟨test_hyp_tables.1, by decide, by decide +kernel, by decide +kernel⟩

theorem test_hyp_TriesFitTheirArenas : LengthsFit [2, 1, 3, 3] 15 ∧ (buildTrie [2, 1, 3, 3] 15).map Trie.used = some 7 ∧
    (buildTrie [0, 0] 15).map Trie.used = some 0 :=
  ⟨test_hyp_tables.1, by decide +kernel, by decide +kernel⟩

/-- The boundaries of the four ranges of codes. -/
theorem test_hyp_FixedCodesAreCompleteAndAsListed :
    (fixedCodes.find? (fun c => c.sym == 143)) = some ⟨143, 8, 0b10111111⟩ ∧
    (fixedCodes.find? (fun c => c.sym == 144)) = some ⟨144, 9, 0b110010000⟩ ∧
    (fixedCodes.find? (fun c => c.sym == 255)) = some ⟨255, 9, 0b111111111⟩ ∧
    (fixedCodes.find? (fun c => c.sym == 256)) = some ⟨256, 7, 0⟩ ∧
    (fixedCodes.find? (fun c => c.sym == 279)) = some ⟨279, 7, 0b0010111⟩ ∧
    (fixedCodes.find? (fun c => c.sym == 280)) = some ⟨280, 8, 0b11000000⟩ ∧
    (fixedCodes.find? (fun c => c.sym == 287)) = some ⟨287, 8, 0b11000111⟩ := by decide +kernel

theorem test_hyp_DecodeAfterEncode :
    CtxFits (.codeLen [1, 2, 2] true) ∧ Instr.wf (.cl1) = true ∧
    encode (.codeLen [1, 2, 2] true) .cl1 = some [true, false] ∧
    CtxFits .stored ∧ encode .stored (.storedBody 1 0xfffe) = some (lsbBits 16 1 ++ lsbBits 16 0xfffe) ∧
    [true, false].length < 8 ∧ (bitsOfBytes [0x48]).length % 8 = 0 ∧
    CtxFits (.codeLen (List.replicate 16 0 ++ [1]) true) ∧
    encode (.codeLen (List.replicate 16 0 ++ [1]) true) (.clRepPrev 0) = some [false] := by
  unfold CtxFits TableFits LengthsFit; decide +kernel

theorem test_hyp_EncodeAfterDecode : CtxFits (.litLen (List.replicate 257 0 ++ [1, 1])) ∧
    decodeElement listSource (.litLen (List.replicate 257 0 ++ [1, 1])) [true, false] = .ok .len258 [false] := by
  unfold CtxFits TableFits LengthsFit; decide +kernel

theorem test_hyp_MatchNotationStandsForItsMatch : 3 ≤ 258 ∧ 258 ≤ 258 ∧ 1 ≤ 32768 ∧ 32768 ≤ 32768 ∧
    matchElements 258 32768 = (.len285, .dist29 8191) ∧ matchElements 257 24577 = (.len284 30, .dist29 0) ∧
    matchElements 3 1 = (.len257, .dist0) := by decide +kernel

theorem test_hyp_MatchRanges : 257 ≤ 284 ∧ 284 ≤ 285 ∧ 31 < 2 ^ llExtraBits 284 ∧ matchLength 284 31 = 258 ∧
    0 < 2 ^ llExtraBits 257 ∧ matchLength 257 0 = 3 ∧
    29 ≤ 29 ∧ 8191 < 2 ^ distExtraBits 29 ∧ matchDistance 29 8191 = 32768 ∧ matchDistance 0 0 = 1 := by decide

/-- A state that decodes literal/length symbols 0 and 1 by the codes `0` and `1`, and distance symbol 0 by the code `0`. -/
def twoSymbols (bytes : List Byte) : State :=
  { loaded bytes 4 with fsm := .symbol, nLl := 2, nD := 1, lens := fillVector 3 0 1 (Vector.replicate Config.CAP_LENS 0) }

/-- A state that decodes length 258 by the code `0`, and distance symbol 0 by the code `0`. -/
def oneMatch (bytes : List Byte) : State :=
  { written [0x61] 4 0 with
    imem := Memory.writeBytes [] 0 bytes, inLen := BitVec.ofNat 32 bytes.length, nLl := 258, nD := 1,
    lens := fillVector 2 257 1 (Vector.replicate Config.CAP_LENS 0) }

/-- What `fetch` answers, and a property of the state after it. -/
def fetchWith (ctx : Ctx) (s : State) (i : Instr) (p : State → Bool) : Bool :=
  match fetch ctx s with
  | .ok j t => decide (j = i) && p t
  | .err _ _ => false

def fetchErr (ctx : Ctx) (s : State) (e : ErrKind) : Bool :=
  match fetch ctx s with
  | .ok _ _ => false
  | .err f _ => decide (f = e)

theorem exists_of_fetchWith {ctx : Ctx} {s : State} {i : Instr} {p : State → Bool} (h : fetchWith ctx s i p = true) :
    ∃ t, fetch ctx s = .ok i t ∧ p t = true := by
  unfold fetchWith at h
  cases hf : fetch ctx s with
  | ok j t => rw [hf] at h; simp only [Bool.and_eq_true, decide_eq_true_eq] at h; exact ⟨t, by rw [h.1], h.2⟩
  | err e t => rw [hf] at h; cases h

theorem exists_of_fetchErr {ctx : Ctx} {s : State} {e : ErrKind} (h : fetchErr ctx s e = true) :
    ∃ t, fetch ctx s = .err e t := by
  unfold fetchErr at h
  cases hf : fetch ctx s with
  | ok j t => rw [hf] at h; cases h
  | err f t => rw [hf] at h; exact ⟨t, by rw [of_decide_eq_true h]⟩

/-- The run decoder of `{16: 1, 0: 2, 1: 2}` at an index. -/
def clState (idx : BitVec 9) (bytes : List Byte) : State :=
  { loaded bytes 4 with
    fsm := .dynLengths, idx := idx, total := 258,
    clLen := ((Vector.replicate Config.N_CL 0).setIfInBounds 16 1).setIfInBounds 0 2 |>.setIfInBounds 1 2 }

theorem test_hyp_StepRunsTheDecodedElement :
    (∃ t, fetch .header (loaded [0x05] 0) = .ok (.blockDynamic 1) t ∧ (t.cur.bitcnt == 5) = true) ∧
    (∃ t, fetch .header (loaded [] 0) = .err .unexpectedEndOfInput t) ∧
    (∃ t, fetch .stored { loaded [0, 0, 0xff, 0xff] 0 with fsm := .stored } = .ok (.storedBody 0 0xffff) t ∧
      (t.cur.inPos == 4) = true) ∧
    (∃ t, fetch .stored { loaded [0] 0 with fsm := .stored } = .err .unexpectedEndOfInput t) ∧
    (∃ t, fetch .dynHeader { loaded [0, 0, 0, 0] 0 with fsm := .dynHeader } = .ok (.dynhdr 0 0 0 [0, 0, 0, 0]) t ∧
      (t.cur.bitIndex == 26) = true) ∧
    (∃ t, fetch .dynHeader { loaded [0] 0 with fsm := .dynHeader } = .err .unexpectedEndOfInput t) ∧
    (∃ t, fetch (codeLenCtx (clState 0 [0x03])) (clState 0 [0x03]) = .ok .cl1 t ∧ (t.cur.bitcnt == 6) = true) ∧
    (∃ t, fetch (codeLenCtx (clState 0 [])) (clState 0 []) = .err .unexpectedEndOfInput t) :=
  ⟨exists_of_fetchWith (by decide +kernel), exists_of_fetchErr (by decide +kernel), exists_of_fetchWith (by decide +kernel),
    exists_of_fetchErr (by decide +kernel), exists_of_fetchWith (by decide +kernel), exists_of_fetchErr (by decide +kernel),
    exists_of_fetchWith (by decide +kernel), exists_of_fetchErr (by decide +kernel)⟩

/-- The symbol clauses: a literal, a match whose distance follows, a match whose distance is missing. -/
theorem test_hyp_StepRunsTheDecodedElement_symbol :
    (∃ t, fetch (.litLen (twoSymbols [0x01]).llLengths) (twoSymbols [0x01]) = .ok .lit01 t ∧
      nextWith (exec .lit01 t) (fun u => u.matchLen == 0) = true) ∧
    (∃ t, fetch (.litLen (oneMatch [0x00]).llLengths) (oneMatch [0x00]) = .ok .len257 t ∧
      nextWith (exec .len257 t) (fun u => u.matchLen == 3 && fetchWith (.distance u.dLengths) u .dist0 (fun _ => true)) = true) ∧
    (∃ t, fetch (.litLen (oneMatch [0x02]).llLengths) (oneMatch [0x02]) = .ok .len257 t ∧
      nextWith (exec .len257 t) (fun u => fetchErr (.distance u.dLengths) u .incompleteHuffmanTable) = true) ∧
    (∃ t, fetch (.litLen (oneMatch [0x01]).llLengths) (oneMatch [0x01]) = .err .incompleteHuffmanTable t) :=
  ⟨exists_of_fetchWith (by decide +kernel), exists_of_fetchWith (by decide +kernel), exists_of_fetchWith (by decide +kernel),
    exists_of_fetchErr (by decide +kernel)⟩

theorem test_hyp_FetchWritesTheCursor :
    (∃ t, fetch .header (loaded [0x05] 0) = .ok (.blockDynamic 1) t) ∧
    (∃ t, fetch .header (loaded [] 0) = .err .unexpectedEndOfInput t) :=
  ⟨(test_hyp_StepRunsTheDecodedElement.1).imp fun _ h => h.1, test_hyp_StepRunsTheDecodedElement.2.1⟩

theorem test_hyp_FetchDecodesTheRemainingInput : CursorInv (loaded [] 0) ∧
    (∃ t, fetch .header (loaded [] 0) = .err .unexpectedEndOfInput t) ∧ CursorInv midByte ∧
    (∃ t, fetch .header midByte = .ok (.blockReserved 0) t ∧ true = true) :=
  ⟨test_hyp_cursor.2.2, test_hyp_StepRunsTheDecodedElement.2.1, test_hyp_cursor.2.1, exists_of_fetchWith (by decide +kernel)⟩

/-- Headers of each type; an input with no bit, and one with two. -/
theorem test_hyp_HeaderStep :
    (∀ b ∈ [(0x00 : Byte), 0x03, 0x04, 0x07], (loaded [b] 0).fsm = .header ∧ CursorInv (loaded [b] 0) ∧
      (loaded [b] 0).cur.bitIndex + 3 ≤ 8 * (loaded [b] 0).inLen.toNat ∧
      fieldValue (loaded [b] 0).imem 1 2 .lsb = b.toNat / 2) ∧
    (8 * (loaded [] 0).inLen.toNat < (loaded [] 0).cur.bitIndex + 1) ∧
    (CursorInv { loaded [0xc0] 0 with cur := ⟨1, 0b11, 2⟩ } ∧ (8 * 1 - 2) + 1 ≤ 8 * (loaded [0xc0] 0).inLen.toNat ∧
      8 * (loaded [0xc0] 0).inLen.toNat < (8 * 1 - 2) + 3) := by
  unfold CursorInv; decide +kernel

theorem test_hyp_StoredFieldsAreLittleEndian : CursorInv (loaded [5, 0, 0xfa, 0xff] 0) ∧
    (loaded [5, 0, 0xfa, 0xff] 0).cur.inPos.toNat + 4 ≤ (loaded [5, 0, 0xfa, 0xff] 0).inLen.toNat ∧
    CursorInv (loaded [5, 0, 0xfa] 0) ∧ (loaded [5, 0, 0xfa] 0).inLen.toNat < (loaded [5, 0, 0xfa] 0).cur.inPos.toNat + 4 := by
  unfold CursorInv; decide +kernel

/-- The clauses of a stored body at their boundaries: one byte of payload, with 1 or 0 bytes of input and of room. -/
theorem test_hyp_StoredBodyCopiesItsPayload :
    (0xffff#16 ≠ 1#16 ^^^ 0xFFFF#16) ∧ (0xfffe#16 = 1#16 ^^^ 0xFFFF#16) ∧
    ((loaded [] 1).inLen.toNat - (loaded [] 1).cur.inPos.toNat < (1#16).toNat) ∧
    ((1#16).toNat ≤ (loaded [7] 0).inLen.toNat - (loaded [7] 0).cur.inPos.toNat ∧
      (loaded [7] 0).outCap.toNat - (loaded [7] 0).outPos.toNat < (1#16).toNat) ∧
    ((1#16).toNat ≤ (loaded [7] 1).inLen.toNat - (loaded [7] 1).cur.inPos.toNat ∧
      (1#16).toNat ≤ (loaded [7] 1).outCap.toNat - (loaded [7] 1).outPos.toNat) := by decide +kernel

theorem test_hyp_DynamicHeaderSetsUpTheLengths :
    overSubscribed ((clLenOf [1, 1, 1]).toList.map BitVec.toNat) 7 = true ∧
    overSubscribed ((clLenOf [1, 1, 0, 0]).toList.map BitVec.toNat) 7 = false := by decide +kernel

theorem test_hyp_FixedSetupStep : ({ State.reset with fsm := .fixed } : State).fsm = .fixed := rfl

theorem test_hyp_DynamicBuildStep :
    overSubscribed ({ State.reset with nLl := 3, lens := fillVector 5 0 1 State.reset.lens } : State).llLengths 15 = true ∧
    overSubscribed ({ State.reset with nLl := 2, nD := 3, lens := fillVector 5 0 1 State.reset.lens } : State).llLengths 15 = false ∧
    overSubscribed ({ State.reset with nLl := 2, nD := 3, lens := fillVector 5 0 1 State.reset.lens } : State).dLengths 15 = true ∧
    overSubscribed ({ State.reset with nLl := 2, nD := 2, lens := fillVector 5 0 1 State.reset.lens } : State).dLengths 15 = false := by
  decide +kernel

theorem test_hyp_CodeLengthIsStored : Instr.cl15.head = .cl 15 0 ∧ 15 ≤ 15 ∧
    (atIndex 319 320 3).idx.toNat < (atIndex 319 320 3).total.toNat ∧ (atIndex 319 320 3).total.toNat ≤ 320 :=
  ⟨rfl, by decide, by decide +kernel, by decide +kernel⟩

theorem test_hyp_RepeatPreviousLength :
    ((atIndex 314 320 3).idx ≠ 0 ∧ 3 + (3#2).toNat ≤ (atIndex 314 320 3).total.toNat - (atIndex 314 320 3).idx.toNat ∧
      (atIndex 314 320 3).total.toNat ≤ 320) ∧
    (atIndex 0 258 9).idx = 0 ∧
    (∃ t, fetch (codeLenCtx (clState 0 [0x00])) (clState 0 [0x00]) = .ok (.clRepPrev 0) t ∧ (t.cur.bitcnt == 7) = true) ∧
    (∃ t, fetch (codeLenCtx (clState 1 [0x06])) (clState 1 [0x06]) = .ok (.clRepPrev 3) t ∧ (t.cur.bitcnt == 5) = true) :=
  ⟨by decide +kernel, by decide +kernel, exists_of_fetchWith (by decide +kernel), exists_of_fetchWith (by decide +kernel)⟩

/-- The symbol 16 that the two step clauses of `RepeatPreviousLength` start from. -/
theorem test_hyp_RepeatPreviousLength_step :
    (match decodeSymbol stateSource (clState 0 [0x00]).clLengths 7 (clState 0 [0x00]) with
     | .ok c _ => c == 16
     | .err _ _ => false) = true ∧
    (match decodeSymbol stateSource (clState 1 [0x06]).clLengths 7 (clState 1 [0x06]) with
     | .ok c t => c == 16 && (match readBits stateSource 2 .lsb t with
       | .ok v _ => v == 3
       | .err _ _ => false)
     | .err _ _ => false) = true := by decide +kernel

theorem test_hyp_RepeatZeroLengths :
    (3 + (7#3).toNat ≤ (atIndex 310 320 3).total.toNat - (atIndex 310 320 3).idx.toNat) ∧
    (11 + (127#7).toNat ≤ (atIndex 0 258 3).total.toNat - (atIndex 0 258 3).idx.toNat) ∧
    (atIndex 310 320 3).total.toNat ≤ 320 := by decide +kernel

theorem test_hyp_RunOverflowFaults :
    ((atIndex 256 258 3).total.toNat - (atIndex 256 258 3).idx.toNat < 3 + (0#2).toNat) ∧
    ((atIndex 256 258 3).total.toNat - (atIndex 256 258 3).idx.toNat < 3 + (0#3).toNat) ∧
    ((atIndex 248 258 3).total.toNat - (atIndex 248 258 3).idx.toNat < 11 + (0#7).toNat) ∧
    ((Instr.clRepPrev 0).head = .cl 16 0 ∧ (atIndex 255 258 3).idx ≠ 0 ∧
      3 + 0 = (atIndex 255 258 3).total.toNat - (atIndex 255 258 3).idx.toNat) ∧
    (Instr.cl7.head = .cl 7 0 ∧ 1 = (atIndex 257 258 3).total.toNat - (atIndex 257 258 3).idx.toNat) ∧
    ((Instr.clRepZ11 0).head = .cl 18 0 ∧ 11 + 0 = (atIndex 247 258 3).total.toNat - (atIndex 247 258 3).idx.toNat) := by
  decide +kernel

theorem test_hyp_LiteralIsAppended : Instr.litFF.head = .ll 255 0 ∧
    (written [0x61] 1 0).outCap.toNat ≤ (written [0x61] 1 0).outPos.toNat ∧
    (written [0x61] 2 0).outPos.toNat < (written [0x61] 2 0).outCap.toNat := ⟨rfl, by decide +kernel, by decide +kernel⟩

theorem test_hyp_EndOfBlockChoosesTheNextState :
    ({ State.reset with bfinal := 1 } : State).bfinal = 1 ∧ State.reset.bfinal ≠ 1 := by decide

theorem test_hyp_LengthHalfHoldsTheLength : Instr.len257.head = .ll 257 0 ∧ (Instr.len284 31).head = .ll 284 31 ∧
    Instr.len285.head = .ll 285 0 := ⟨rfl, rfl, rfl⟩

/-- The clauses of a match at their boundaries: distance 2 with 1 or 2 bytes written, length 3 with 2 or 3 bytes of room. -/
theorem test_hyp_DistanceHalfCopiesTheMatch : Instr.dist1.head = .dist 1 0 ∧ (Instr.dist29 8191).head = .dist 29 8191 ∧
    dstBase.getD 1 0 + 0 = 2 ∧ (written [0x61] 8 3).outPos.toNat < 2 ∧ 2 ≤ (written [0x61, 0x62] 4 3).outPos.toNat ∧
    (written [0x61, 0x62] 4 3).outCap.toNat - (written [0x61, 0x62] 4 3).outPos.toNat < (written [0x61, 0x62] 4 3).matchLen.toNat ∧
    (written [0x61, 0x62] 5 3).matchLen.toNat ≤ (written [0x61, 0x62] 5 3).outCap.toNat - (written [0x61, 0x62] 5 3).outPos.toNat :=
  ⟨rfl, rfl, by decide, by decide +kernel, by decide +kernel, by decide +kernel, by decide +kernel⟩

/-- One next state for each format that `ExecFrame` speaks of. -/
theorem test_hyp_ExecFrame :
    (∃ t, exec .lit41 (written [0x61] 2 0) = .next t ∧ (t.outPos == 2) = true) ∧
    (∃ t, exec (.storedBody 1 0xfffe) (loaded [7] 1) = .next t ∧ (t.cur.inPos == 1) = true) ∧
    (∃ t, exec .cl7 (atIndex 0 258 9) = .next t ∧ (t.idx == 1) = true) ∧
    (∃ t, exec (.dynhdr 0 0 0 [0, 0, 0, 0]) State.reset = .next t ∧ (t.total == 258) = true) ∧
    (∃ t, exec (.blockFixed 1) State.reset = .next t ∧ (t.btype == 1) = true) ∧
    (∃ t, exec .dist1 (written [0x61, 0x62] 5 3) = .next t ∧ (t.outPos == 5) = true) :=
  ⟨exists_of_nextWith (by decide +kernel), exists_of_nextWith (by decide +kernel), exists_of_nextWith (by decide +kernel),
    exists_of_nextWith (by decide +kernel), exists_of_nextWith (by decide +kernel), exists_of_nextWith (by decide +kernel)⟩

/-- A step to each error kind from a state with none. -/
theorem test_hyp_ErrorKindsComeFromTheirSteps :
    (∃ t, step (loaded [0x07] 0) = .next t ∧ (t.err == some .invalidBlockType) = true) ∧
    (∃ t, step { State.reset with fsm := .dynBuild, nLl := 3, lens := fillVector 5 0 1 State.reset.lens } = .next t ∧
      (t.err == some .overSubscribedHuffmanTable) = true) ∧
    (∃ t, step (oneMatch [0x01]) = .next t ∧ (t.err == some .incompleteHuffmanTable) = true) ∧
    (∃ t, step (loaded [] 0) = .next t ∧ (t.err == some .unexpectedEndOfInput) = true) ∧
    (∃ t, step { oneMatch [0x00] with outPos := 0 } = .next t ∧ (t.err == some .backReferenceOutOfRange) = true) ∧
    (∃ t, step { oneMatch [0x00] with outCap := 3 } = .next t ∧ (t.err == some .outputBufferExhausted) = true) ∧
    (∃ t, step (clState 0 [0x00]) = .next t ∧ (t.err == some .malformedCodeLengthRun) = true) ∧
    (∃ t, step { loaded [0, 0, 0, 0] 0 with fsm := .stored } = .next t ∧ (t.err == some .storedLengthMismatch) = true) ∧
    (∃ t, step { oneMatch [0x00] with lens := (fillVector 1 286 1 (Vector.replicate Config.CAP_LENS 0)), nLl := 288 } = .next t ∧
      (t.err == some .reservedSymbol) = true) ∧
    (loaded [] 0).err = none ∧ (oneMatch [0x00]).err = none ∧ (clState 0 [0x00]).err = none :=
  ⟨exists_of_nextWith (by decide +kernel), exists_of_nextWith (by decide +kernel), exists_of_nextWith (by decide +kernel),
    exists_of_nextWith (by decide +kernel), exists_of_nextWith (by decide +kernel), exists_of_nextWith (by decide +kernel),
    exists_of_nextWith (by decide +kernel), exists_of_nextWith (by decide +kernel), exists_of_nextWith (by decide +kernel),
    rfl, rfl, rfl⟩

/-- A raise, and a state of each kind in which the engine takes no step. -/
theorem test_hyp_RaiseStopsTheEngine : (State.reset.raise .reservedSymbol).fsm = .error ∧ State.reset.fsm = .idle ∧
    ({ State.reset with fsm := .done, outPos := 7 } : State).fsm = .done := ⟨rfl, rfl, rfl⟩

theorem test_hyp_FaultingStepWritesNoOutput : (oneMatch [0x00]).fsm ≠ .error ∧
    ∃ t, step { oneMatch [0x00] with outCap := 3 } = .next t ∧ (t.fsm == .error) = true :=
  ⟨by decide, exists_of_nextWith (by decide +kernel)⟩

theorem test_hyp_StatusAndErrorCodes : ErrInv State.reset ∧ ErrInv (State.reset.raise .reservedSymbol) := by
  unfold ErrInv; decide +kernel

/-- Inside a block of one length symbol, its tries built. -/
def insideBlock : State :=
  { oneMatch [0x00] with
    llTrie := (buildTrie (oneMatch [0x00]).llLengths 15).getD Trie.empty
    dTrie := (buildTrie (oneMatch [0x00]).dLengths 15).getD Trie.empty }

/-- Between two code lengths, the trie built. -/
def insideLengths : State :=
  { clState 257 [0x03] with nLl := 257, nD := 1, clTrie := (buildTrie (clState 257 [0x03]).clLengths 7).getD Trie.empty }

theorem test_inv_start : EngineInv (loaded [0x05] 4) := by
  refine ⟨by unfold WidthInv; decide, ?_, ?_, ?_, ?_,
    ⟨fun h => absurd h (by decide), fun h => absurd h (by decide), fun h => absurd h (by decide)⟩, ?_⟩
  · unfold CursorInv; decide +kernel
  · unfold OutputInv; decide +kernel
  · unfold MemoryInv; decide +kernel
  · unfold ErrInv; decide +kernel
  · unfold MatchInv; decide +kernel

theorem test_inv_block : EngineInv insideBlock := by
  refine ⟨by unfold WidthInv; decide, ?_, ?_, ?_, ?_,
    ⟨fun h => absurd h (by decide), fun h => absurd h (by decide), fun _ => ⟨?_, ?_, ?_⟩⟩, ?_⟩
  · unfold CursorInv; decide +kernel
  · unfold OutputInv; decide +kernel
  · unfold MemoryInv; decide +kernel
  · unfold ErrInv; decide +kernel
  · unfold SizesInv; decide +kernel
  · decide +kernel
  · decide +kernel
  · unfold MatchInv; decide +kernel

theorem test_inv_lengths : EngineInv insideLengths := by
  refine ⟨by unfold WidthInv; decide, ?_, ?_, ?_, ?_,
    ⟨fun _ => ⟨?_, ?_, ?_, ?_⟩, fun h => absurd h (by decide), fun h => absurd h (by decide)⟩, ?_⟩
  · unfold CursorInv; decide +kernel
  · unfold OutputInv; decide +kernel
  · unfold MemoryInv; decide +kernel
  · unfold ErrInv; decide +kernel
  · unfold SizesInv; decide +kernel
  · decide +kernel
  · decide +kernel
  · decide +kernel
  · unfold MatchInv; decide +kernel

/-- A run at its first step, inside a block, and at its last code length, with the step each takes. -/
theorem test_hyp_StepKeepsTheInvariants :
    EngineInv (loaded [0x05] 4) ∧ (∃ t, step (loaded [0x05] 4) = .next t ∧ (t.fsm == .dynHeader) = true) ∧
    EngineInv insideBlock ∧ (∃ t, step insideBlock = .next t ∧ (t.outPos == 4) = true) ∧
    EngineInv insideLengths ∧ (∃ t, step insideLengths = .next t ∧ (t.fsm == .dynBuild) = true) :=
  ⟨test_inv_start, exists_of_nextWith (by decide +kernel), test_inv_block, exists_of_nextWith (by decide +kernel),
    test_inv_lengths, exists_of_nextWith (by decide +kernel)⟩

theorem test_inv_idle : SystemInv { State.reset with platform := ⟨true, true, 0, 0⟩ } := by
  refine ⟨by unfold WidthInv; decide, ?_, ?_,
    ⟨fun h => absurd h (by decide), fun h => absurd h (by decide), fun h => absurd h (by decide)⟩, ?_,
    fun h => absurd h (by decide)⟩
  · unfold MemoryInv; decide +kernel
  · unfold ErrInv; decide +kernel
  · unfold MatchInv; decide +kernel

/-- Widths 17 and 32, and a state to start from. -/
theorem test_hyp_ResetAndStartHaveTheInvariants : 17 ≤ 17 ∧ WidthInv (loadedAt 17 [0x05] 4) ∧ WidthInv (loaded [0x05] 4) ∧
    MemoryInv (loadedAt 17 [0x05] 4) ∧ MemoryInv (loaded [0x05] 4) := by
  unfold WidthInv MemoryInv; decide +kernel

/-- A step and a host operation with a next state, at the least width. -/
theorem test_hyp_WidthIsAParameter :
    (∃ t, step (loadedAt 17 [0x05] 4) = .next t ∧ (t.aw == 17 && t.fsm == .dynHeader) = true) ∧
    (∃ t, hostStep (.write 3 9) (State.resetAt 17) = .next t ∧ (t.aw == 17 && t.inLen.toNat == 9) = true) :=
  ⟨exists_of_nextWith (by decide +kernel), exists_of_nextWith (by decide +kernel)⟩

theorem test_hyp_HostKeepsTheInvariants : SystemInv { State.reset with platform := ⟨true, true, 0, 0⟩ } ∧
    (∃ t, hostStep (.write 0 1) { State.reset with platform := ⟨true, true, 0, 0⟩ } = .next t ∧ (t.fsm == .header) = true) ∧
    (∃ t, step { State.reset with platform := ⟨true, true, 0, 0⟩ } = .next t ∧ (t.fsm == .idle) = true) :=
  ⟨test_inv_idle, exists_of_nextWith (by decide +kernel), exists_of_nextWith (by decide +kernel)⟩

/-- A busy state with the invariants of any time. -/
theorem test_hyp_EveryStepIsSafe : SystemInv insideBlock ∧ insideBlock.busy = true :=
  have ⟨width, cursor, output, memory, err, tables, noMatch⟩ := test_inv_block
  ⟨⟨width, memory, err, tables, noMatch, fun _ => ⟨cursor, output⟩⟩, by decide⟩

theorem test_hyp_OutputIsAppendOnly : ∃ t, step insideBlock = .next t ∧ (t.outPos == 4) = true :=
  test_hyp_StepKeepsTheInvariants.2.2.2.1

/-- A completed step from each busy state. -/
theorem test_hyp_StepsFollowTheStateTable :
    (∃ t, step (loaded [0x05] 4) = .next t ∧ (t.fsm == .dynHeader) = true) ∧
    (∃ t, step { loaded [0, 0, 0xff, 0xff] 0 with fsm := .stored } = .next t ∧ (t.fsm == .header) = true) ∧
    (∃ t, step { loaded [0, 0, 0, 0] 0 with fsm := .dynHeader } = .next t ∧ (t.fsm == .dynLengths) = true) ∧
    (∃ t, step insideLengths = .next t ∧ (t.fsm == .dynBuild) = true) ∧
    (∃ t, step { State.reset with fsm := .dynBuild } = .next t ∧ (t.fsm == .symbol) = true) ∧
    (∃ t, step { State.reset with fsm := .fixed } = .next t ∧ (t.fsm == .symbol) = true) ∧
    (∃ t, step insideBlock = .next t ∧ (t.fsm == .symbol) = true) ∧
    insideBlock.matchLen = 0 ∧ (loaded [0x05] 4).matchLen = 0 :=
  ⟨exists_of_nextWith (by decide +kernel), exists_of_nextWith (by decide +kernel), exists_of_nextWith (by decide +kernel),
    exists_of_nextWith (by decide +kernel), exists_of_nextWith (by decide +kernel), exists_of_nextWith (by decide +kernel),
    exists_of_nextWith (by decide +kernel), by decide +kernel, by decide +kernel⟩

theorem test_hyp_StepsConsumeBits : EngineInv insideBlock ∧
    (∃ t, step insideBlock = .next t ∧ (t.fsm != .error && t.cur.bitIndex == 2) = true) :=
  ⟨test_inv_block, exists_of_nextWith (by decide +kernel)⟩

theorem test_hyp_EveryRunEnds : MemoryInv (loaded [0x05] 4) := test_hyp_ResetAndStartHaveTheInvariants.2.2.2.2

theorem test_same_below : SameBelow 1 [(0, 5)] [(0, 5), (3, 7)] ∧ Memory.read [(0, 5)] 3 ≠ Memory.read [(0, 5), (3, 7)] 3 := by
  refine ⟨fun a h => ?_, by decide⟩
  have : a = 0 := by omega
  subst this; rfl

/-- Two inputs that differ beyond `IN_LEN = 1`. -/
theorem test_hyp_InputBeyondInLenIsNotRead :
    SameBelow (loaded [5] 0).inLen.toNat (loaded [5] 0).imem [(0, 5), (3, 7)] := by
  have h : (loaded [5] 0).inLen.toNat = 1 ∧ (loaded [5] 0).imem = [(0, 5)] := by decide +kernel
  rw [h.1, h.2]; exact test_same_below.1

/-- Two outputs that differ from `out_pos = 1` on, and a step. -/
theorem test_hyp_OutputBeyondOutPosIsNotRead :
    SameBelow (written [5] 8 0).outPos.toNat (written [5] 8 0).omem [(0, 5), (3, 7)] ∧
    ∃ t, step (written [5] 8 0) = .next t ∧ (t.fsm == .error) = true := by
  have h : (written [5] 8 0).outPos.toNat = 1 ∧ (written [5] 8 0).omem = [(0, 5)] := by decide +kernel
  rw [h.1, h.2]; exact ⟨test_same_below.1, exists_of_nextWith (by decide +kernel)⟩

/-- Two engines of widths 32 and 17, with different pasts and the same input. -/
theorem test_hyp_RunsAreIndependentOfThePast :
    let s := loaded [5] 0
    let u := { loadedAt 17 [5] 0 with imem := [(0, 5), (3, 7)], lens := Vector.replicate Config.CAP_LENS 7, idx := 9 }
    u.inLen.toNat = s.inLen.toNat ∧ u.outCap.toNat = s.outCap.toNat ∧ SameBelow s.inLen.toNat s.imem u.imem ∧
      ∃ t, stepN 1 s.start = .next t ∧ (t.fsm == .dynHeader) = true :=
  ⟨by decide +kernel, by decide +kernel, test_hyp_InputBeyondInLenIsNotRead, exists_of_nextWith (by decide +kernel)⟩

theorem test_hyp_RegisterReads : WidthInv State.reset ∧ WidthInv (loadedAt 17 [5] 0) ∧ State.reset.busy = false ∧
    (loadedAt 17 [5] 0).busy = true := by
  unfold WidthInv; decide

theorem test_hyp_RegisterWrites : State.reset.busy = false ∧ (loaded [5] 0).busy = true ∧ 2 % 2 = 0 ∧ 5 ≠ 0 ∧ 5 ≠ 3 ∧ 5 ≠ 4 := by
  decide

/-- Each clause of START: allowed at equal sizes, and one byte short of each. -/
theorem test_hyp_StartBeginsARun :
    let s : State := { State.reset with inLen := 3, outCap := 2, platform := ⟨true, true, 3, 2⟩ }
    s.busy = false ∧ 3 % 2 = 1 ∧ s.platform.inLenWritten = true ∧ s.platform.outCapWritten = true ∧
    s.inLen.toNat ≤ s.platform.imemSize ∧ s.outCap.toNat ≤ s.platform.omemSize ∧
    State.reset.platform.inLenWritten = false ∧
    ({ s with platform := ⟨true, true, 2, 2⟩ } : State).platform.imemSize < s.inLen.toNat ∧
    ({ s with platform := ⟨true, true, 3, 1⟩ } : State).platform.omemSize < s.outCap.toNat := by decide

theorem test_hyp_HostMemoryAccess : [(5 : Byte), 6].length ≤ 2 ^ State.reset.aw ∧ State.reset.busy = false ∧
    (loaded [5] 0).busy = true := by
  decide

theorem test_hyp_ResetState : State.reset = State.resetAt 32 ∧ (State.resetAt 17).aw = 17 := ⟨rfl, rfl⟩

theorem test_hyp_HardwareReset : State.reset.busy = false ∧ (loaded [5] 3).outCap.toNat ≤ 3 := by decide

end Sys2Proof.Tests
end

section
/-! PROOFS. Bit reads of zero bits and of one, and the canonical codes of a table symbol by symbol. -/

namespace Sys2Proof.Machine

variable {σ : Type}

@[simp] theorem readBits_zero (src : Source σ) (o : Order) (s : σ) : readBits src 0 o s = .ok 0 s := by
  cases o <;> rfl

/-- A read of one bit gives the source's next bit, or runs out of input. -/
theorem readBits_one_msb_cases (src : Source σ) (s : σ) :
    (src.next s = none ∧ readBits src 1 .msb s = .err .unexpectedEndOfInput s) ∨
    ∃ (b : Bool) (t : σ), src.next s = some (b, t) ∧ readBits src 1 .msb s = .ok b.toNat t := by
  rcases h : src.next s with _ | ⟨b, t⟩
  · exact .inl ⟨rfl, by simp [readBits, readMsb, h]⟩
  · exact .inr ⟨b, t, rfl, by simp [readBits, readMsb, h]⟩

@[simp] theorem length_bumpAt (cs : List Nat) (k : Nat) : (bumpAt cs k).length = cs.length := by
  induction cs generalizing k with
  | nil => rfl
  | cons c cs ih => cases k <;> simp [bumpAt, ih]

theorem getD_bumpAt (cs : List Nat) (k l : Nat) (hl : l < cs.length) :
    (bumpAt cs k).getD l 0 = cs.getD l 0 + if k = l then 1 else 0 := by
  induction cs generalizing k l with
  | nil => cases hl
  | cons c cs ih =>
    cases k with
    | zero => cases l <;> simp [bumpAt]
    | succ k =>
      cases l with
      | zero => simp [bumpAt]
      | succ l => simpa [bumpAt] using ih k l (by simpa using hl)

@[simp] theorem length_startsFrom (start : Nat) (count : List Nat) : (startsFrom start count).length = count.length := by
  induction count generalizing start with
  | nil => rfl
  | cons c cs ih => simp [startsFrom, ih]

@[simp] theorem length_countLengths (L count : List Nat) : (countLengths L count).length = count.length := by
  induction L generalizing count with
  | nil => rfl
  | cons l ls ih => rw [countLengths, ih]; split <;> simp

@[simp] theorem length_startCodes (L : List Nat) (m : Nat) : (startCodes L m).length = m + 1 := by
  simp [startCodes, histogram]

/-- The code that an assignment from symbol `i` gives symbol `i + k`: the counter of its length, plus one for each symbol of
that length before it. -/
theorem find?_assignCodes {L : List Nat} {k l : Nat} (i : Nat) {next : List Nat} (hk : L[k]? = some l) (h0 : l ≠ 0)
    (hl : l < next.length) :
    (assignCodes L i next).find? (fun c => c.sym == i + k) =
      some ⟨i + k, l, next.getD l 0 + (L.take k).count l⟩ := by
  induction L generalizing i k next with
  | nil => cases hk
  | cons a as ih =>
    cases k with
    | zero =>
      obtain rfl : a = l := by simpa using hk
      simp [assignCodes, h0]
    | succ k =>
      have hk' : as[k]? = some l := by simpa using hk
      have hi : i + (k + 1) = i + 1 + k := by omega
      rw [hi, assignCodes]
      split
      next ha =>
        rw [ih (i + 1) hk' hl, List.take_succ_cons, List.count_cons_of_ne (by omega)]
      next ha =>
        rw [List.find?_cons_of_neg (by simp; omega), ih (i + 1) hk' (by simpa using hl), getD_bumpAt _ _ _ hl,
          List.take_succ_cons, List.count_cons]
        simp only [beq_iff_eq]
        congr 2
        omega

/-- 41 R154: the code of a used symbol. -/
theorem find?_codes {L : List Nat} {m k l : Nat} (hk : L[k]? = some l) (h0 : l ≠ 0) (hl : l ≤ m) :
    (codes L m).find? (fun c => c.sym == k) = some ⟨k, l, (startCodes L m).getD l 0 + (L.take k).count l⟩ := by
  have hlen : l < (startCodes L m).length := by simpa using Nat.lt_succ_of_le hl
  simpa [codes] using find?_assignCodes 0 hk h0 hlen

end Sys2Proof.Machine
end

section
/-! PROOFS. A table whose code words cover every bit sequence has no dead end (41 R160, R161). -/

namespace Sys2Proof.Machine

/-- Every `m` bits that begin with the `l` bits of value `v` begin with the code word of one of `cs`, of at least `l` bits. -/
def Covers (cs : List Code) (m v l : Nat) : Prop :=
  ∀ x, x >>> (m - l) = v → ∃ c ∈ cs, l ≤ c.len ∧ 1 ≤ c.len ∧ c.len ≤ m ∧ x >>> (m - c.len) = c.code

variable {cs : List Code} {m v l : Nat}

theorem Code.hasPrefix_iff {c : Code} : c.hasPrefix l v = true ↔ 1 ≤ c.len ∧ l ≤ c.len ∧ c.code >>> (c.len - l) = v := by
  simp [Code.hasPrefix, and_assoc]

theorem Code.isWord_iff {c : Code} : c.isWord l v = true ↔ c.len = l ∧ 1 ≤ l ∧ c.code = v := by
  simp [Code.isWord, and_assoc]

/-- The code that covers some bits begins with every shorter run of their first bits. -/
theorem Code.hasPrefix_of_shiftRight {c : Code} {x : Nat} (hx : x >>> (m - l) = v) (hl : l ≤ c.len) (h1 : 1 ≤ c.len)
    (hm : c.len ≤ m) (hc : x >>> (m - c.len) = c.code) : c.hasPrefix l v = true := by
  refine Code.hasPrefix_iff.2 ⟨h1, hl, ?_⟩
  rw [← hc, ← Nat.shiftRight_add, ← hx]
  congr 1
  omega

/-- What covers is still there among the codes that begin with the bits read so far. -/
theorem Covers.filter_hasPrefix (h : Covers cs m v l) : Covers (cs.filter fun c => c.hasPrefix l v) m v l := by
  intro x hx
  obtain ⟨c, hc, hl, h1, hm, hx'⟩ := h x hx
  exact ⟨c, List.mem_filter.2 ⟨hc, Code.hasPrefix_of_shiftRight hx hl h1 hm hx'⟩, hl, h1, hm, hx'⟩

theorem Covers.ne_nil (h : Covers cs m v l) : cs ≠ [] := by
  obtain ⟨c, hc, -⟩ := h (v <<< (m - l)) (Nat.shiftLeft_shiftRight v _)
  exact List.ne_nil_of_mem hc

/-- Where no code word ends, every continuation is covered by a longer one. -/
theorem Covers.exists_longer (h : Covers cs m v l) (hw : ∀ c ∈ cs, c.isWord l v = false) {x : Nat}
    (hx : x >>> (m - l) = v) : ∃ c ∈ cs, l < c.len ∧ c.len ≤ m ∧ x >>> (m - c.len) = c.code := by
  obtain ⟨c, hc, hl, h1, hm, hcode⟩ := h x hx
  refine ⟨c, hc, lt_of_le_of_ne hl ?_, hm, hcode⟩
  rintro rfl
  have hword := Code.isWord_iff.2 ⟨rfl, h1, hcode.symm.trans hx⟩
  simp [hw c hc] at hword

theorem Covers.lt_of_no_word (h : Covers cs m v l) (hw : ∀ c ∈ cs, c.isWord l v = false) : l < m := by
  obtain ⟨c, -, hl, hm, -⟩ := h.exists_longer hw (Nat.shiftLeft_shiftRight v _)
  omega

/-- Where no code word ends, either next bit is covered too. -/
theorem Covers.next_bit (h : Covers cs m v l) (hw : ∀ c ∈ cs, c.isWord l v = false) (b : Bool) :
    Covers cs m (v * 2 + b.toNat) (l + 1) := by
  intro x hx
  have hlm := h.lt_of_no_word hw
  have hv : x >>> (m - l) = v := by
    rw [show m - l = m - (l + 1) + 1 by omega, Nat.shiftRight_add, hx, Nat.shiftRight_one]
    have := b.toNat_lt
    omega
  obtain ⟨c, hc, hl, hm, hcode⟩ := h.exists_longer hw hv
  exact ⟨c, hc, hl, by omega, hm, hcode⟩

/-- The loop of `Decode` meets no dead end while the codes it carries cover what may follow: some code is live, and at the
latest after `m` bits one ends. -/
theorem decodeLoop_ne_incomplete {σ : Type} (src : Source σ) {n : Nat} (s t : σ) (h : Covers cs m v l) (hlm : l ≤ m)
    (hn : m < n + l) : decodeLoop src n cs v l s ≠ .err .incompleteHuffmanTable t := by
  induction n generalizing cs v l s with
  | zero => omega
  | succ n ih =>
    have hlive := h.filter_hasPrefix
    simp only [decodeLoop]
    generalize cs.filter (fun c => c.hasPrefix l v) = live at hlive ⊢
    rw [if_neg (by simpa using hlive.ne_nil)]
    split
    next => simp
    next hnone =>
      have hw : ∀ c ∈ live, c.isWord l v = false := by simpa using hnone
      have hlt := hlive.lt_of_no_word hw
      rcases readBits_one_msb_cases src s with ⟨-, hr⟩ | ⟨b, u, -, hr⟩ <;> rw [hr]
      · simp
      · exact ih u (hlive.next_bit hw b) hlt (by omega)

/-- Decoding by a table whose codes cover every `k` bits, none above its longest length, meets no dead end. -/
theorem decodeSymbol_ne_incomplete {σ : Type} (src : Source σ) {L : List Nat} {k : Nat} (hk : k ≤ m)
    (h : Covers (codes L m) k 0 0) (s t : σ) : decodeSymbol src L m s ≠ .err .incompleteHuffmanTable t :=
  decodeLoop_ne_incomplete src s t h (Nat.zero_le k) (by omega)

end Sys2Proof.Machine
end

section
/-! PROOFS. The fixed tables (30_encoding R100, R101): their codes symbol by symbol, and that they cover every bit sequence. -/

namespace Sys2Proof.Machine

/-- The code R101 lists for a literal/length symbol. -/
def fixedLlCode (s : Nat) : Code :=
  if s < 144 then ⟨s, 8, 48 + s⟩ else if s < 256 then ⟨s, 9, 400 + (s - 144)⟩
  else if s < 280 then ⟨s, 7, s - 256⟩ else ⟨s, 8, 192 + (s - 280)⟩

theorem fixedLlCode_of_lt_144 {s : Nat} (h : s < 144) : fixedLlCode s = ⟨s, 8, 48 + s⟩ := if_pos h

theorem fixedLlCode_of_lt_256 {s : Nat} (h : 144 ≤ s) (h' : s < 256) : fixedLlCode s = ⟨s, 9, 400 + (s - 144)⟩ := by
  rw [fixedLlCode, if_neg (by omega), if_pos h']

theorem fixedLlCode_of_lt_280 {s : Nat} (h : 256 ≤ s) (h' : s < 280) : fixedLlCode s = ⟨s, 7, s - 256⟩ := by
  rw [fixedLlCode, if_neg (by omega), if_neg (by omega), if_pos h']

theorem fixedLlCode_of_280_le {s : Nat} (h : 280 ≤ s) : fixedLlCode s = ⟨s, 8, 192 + (s - 280)⟩ := by
  rw [fixedLlCode, if_neg (by omega), if_neg (by omega), if_neg (by omega)]

theorem fixedLlCode_len (s : Nat) : 1 ≤ (fixedLlCode s).len ∧ (fixedLlCode s).len ≤ 9 := by
  unfold fixedLlCode
  split_ifs <;> simp

theorem startCodes_fixedLl : startCodes fixedLl 15 =
    [0, 0, 0, 0, 0, 0, 0, 0, 48, 400, 1024, 2048, 4096, 8192, 16384, 32768] := by decide +kernel

theorem startCodes_fixedD : startCodes fixedD 15 =
    [0, 0, 0, 0, 0, 0, 64, 128, 256, 512, 1024, 2048, 4096, 8192, 16384, 32768] := by decide +kernel

theorem getElem?_fixedLl {s : Nat} (hs : s < 288) : fixedLl[s]? = some (fixedLlCode s).len := by
  simp only [fixedLl, fixedLlCode, List.getElem?_append, List.getElem?_replicate, List.length_replicate]
  grind

/-- How many of the first `s` fixed literal/length symbols have a code of `l` bits. -/
theorem count_take_fixedLl (s l : Nat) : (fixedLl.take s).count l =
    (if l = 8 then min s 144 + min (s - 280) 8 else 0) + (if l = 9 then min (s - 144) 112 else 0) +
      (if l = 7 then min (s - 256) 24 else 0) := by
  simp only [fixedLl, List.take_append, List.take_replicate, List.count_append, List.count_replicate, List.length_replicate,
    beq_iff_eq, eq_comm (b := l), Nat.sub_sub]
  split_ifs <;> omega

/-- The listed code is the one of the closed form: the start code of its length, plus the symbols of that length before it. -/
theorem fixedLlCode_eq (s : Nat) (hs : s < 288) : fixedLlCode s =
    ⟨s, (fixedLlCode s).len, (startCodes fixedLl 15).getD (fixedLlCode s).len 0 + (fixedLl.take s).count (fixedLlCode s).len⟩ := by
  rw [startCodes_fixedLl, count_take_fixedLl]
  obtain h | ⟨h, h'⟩ | ⟨h, h'⟩ | h : s < 144 ∨ (144 ≤ s ∧ s < 256) ∨ (256 ≤ s ∧ s < 280) ∨ 280 ≤ s := by omega
  · simp [fixedLlCode_of_lt_144 h]
    omega
  · simp [fixedLlCode_of_lt_256 h h']
    omega
  · simp [fixedLlCode_of_lt_280 h h']
    omega
  · simp [fixedLlCode_of_280_le h]
    omega

/-- R101, literal/length symbols. -/
theorem find?_codes_fixedLl {s : Nat} (hs : s < 288) :
    (codes fixedLl 15).find? (fun c => c.sym == s) = some (fixedLlCode s) := by
  obtain ⟨hpos, hle⟩ := fixedLlCode_len s
  rw [find?_codes (getElem?_fixedLl hs) (by omega) (by omega), ← fixedLlCode_eq s hs]

/-- R101, distance symbols. -/
theorem find?_codes_fixedD {d : Nat} (hd : d < 32) :
    (codes fixedD 15).find? (fun c => c.sym == d) = some ⟨d, 5, d⟩ := by
  have hk : fixedD[d]? = some 5 := List.getElem?_replicate_of_lt hd
  have hcount : (fixedD.take d).count 5 = d := by
    rw [fixedD, List.take_replicate, List.count_replicate_self]
    omega
  rw [find?_codes hk (by decide) (by decide), startCodes_fixedD, hcount]
  simp

theorem mem_codes_fixedLl {s : Nat} (hs : s < 288) : fixedLlCode s ∈ codes fixedLl 15 :=
  List.mem_of_find?_eq_some (find?_codes_fixedLl hs)

/-- Every 9 bits begin with a fixed literal/length code. -/
theorem covers_fixedLl : Covers (codes fixedLl 15) 9 0 0 := by
  intro x hx
  have hx : x < 512 := by simpa [Nat.shiftRight_eq_div_pow] using hx
  suffices h : ∃ s < 288, x >>> (9 - (fixedLlCode s).len) = (fixedLlCode s).code by
    obtain ⟨s, hs, hcode⟩ := h
    obtain ⟨hpos, hle⟩ := fixedLlCode_len s
    exact ⟨_, mem_codes_fixedLl hs, Nat.zero_le _, hpos, hle, hcode⟩
  simp only [Nat.shiftRight_eq_div_pow]
  obtain h | ⟨h, h'⟩ | ⟨h, h'⟩ | h : x < 96 ∨ (96 ≤ x ∧ x < 384) ∨ (384 ≤ x ∧ x < 400) ∨ 400 ≤ x := by omega
  · refine ⟨256 + x / 4, by omega, ?_⟩
    rw [fixedLlCode_of_lt_280 (by omega) (by omega)]
    dsimp only
    omega
  · refine ⟨x / 2 - 48, by omega, ?_⟩
    rw [fixedLlCode_of_lt_144 (by omega)]
    dsimp only
    omega
  · refine ⟨280 + (x / 2 - 192), by omega, ?_⟩
    rw [fixedLlCode_of_280_le (by omega)]
    dsimp only
    omega
  · refine ⟨144 + (x - 400), by omega, ?_⟩
    rw [fixedLlCode_of_lt_256 (by omega) (by omega)]
    dsimp only
    omega

/-- Every 5 bits are a fixed distance code. -/
theorem covers_fixedD : Covers (codes fixedD 15) 5 0 0 := by
  intro x hx
  have hx : x < 32 := by simpa [Nat.shiftRight_eq_div_pow] using hx
  exact ⟨⟨x, 5, x⟩, List.mem_of_find?_eq_some (find?_codes_fixedD hx), by simp⟩

end Sys2Proof.Machine
end

section
/-! PROOFS. The statements of 30_encoding. -/

namespace Sys2Proof.Machine

/-- Every length symbol starts at 3 or above, and its greatest extra field reaches at most 258. -/
theorem lenBase_range : ∀ k < 29, 3 ≤ lenBase.getD k 0 ∧ lenBase.getD k 0 + 2 ^ lenExtra.getD k 0 ≤ 259 := by decide

/-- Every distance symbol starts at 1 or above, and its greatest extra field, of at most 13 bits, reaches at most 32768. -/
theorem dstBase_range : ∀ d < 30, 1 ≤ dstBase.getD d 0 ∧ dstBase.getD d 0 + 2 ^ dstExtra.getD d 0 ≤ 32769 ∧
    dstExtra.getD d 0 ≤ 13 := by decide

/-- Settles O11: the codes by the closed form of R154, and no dead end because every 9 bits begin with a literal/length code and
every 5 bits with a distance code. -/
theorem fixedCodesAreCompleteAndAsListed : Obligations.FixedCodesAreCompleteAndAsListed :=
  ⟨fun _ hs => find?_codes_fixedLl hs, fun _ hd => find?_codes_fixedD hd, fun _ src s t =>
    ⟨decodeSymbol_ne_incomplete src (by decide) covers_fixedLl s t,
      decodeSymbol_ne_incomplete src (by decide) covers_fixedD s t⟩⟩

/-- Settles O17. -/
theorem clOrderIsThePermutation : Obligations.ClOrderIsThePermutation :=
  ⟨rfl, by decide⟩

/-- Settles O18: each range from the base of the symbol and the size of its extra field. -/
theorem matchRanges : Obligations.MatchRanges := by
  refine ⟨fun y e h257 h285 he => ?_, by decide, by decide, by decide, by decide, fun d x hd hx => ?_,
    fun _ src o s => readBits_zero src o s⟩
  · have hbits : llExtraBits y = lenExtra.getD (y - 257) 0 := if_pos h257
    obtain ⟨hlo, hhi⟩ := lenBase_range (y - 257) (by omega)
    rw [hbits] at he
    refine ⟨rfl, hbits, ?_, ?_⟩ <;> unfold matchLength <;> omega
  · obtain ⟨hlo, hhi, hbits⟩ := dstBase_range d (by omega)
    unfold distExtraBits at hx ⊢
    refine ⟨rfl, rfl, hbits, ?_, ?_⟩ <;> unfold matchDistance <;> omega

end Sys2Proof.Machine
end

section
/-! PROOFS. One bit from the cursor (40_bitreader R130, 10_state R22, R39). -/

namespace Sys2Proof.Machine

section Cursor

variable {aw : Nat} {imem : Memory} {inLen : Addr aw} {c : Cursor aw}

theorem Cursor.bitIndex_of_bitcnt_eq_zero (h : c.bitcnt = 0) : c.bitIndex = 8 * c.inPos.toNat := by
  simp [Cursor.bitIndex, h]

/-- With no residual bit, the next byte of the input is loaded whole and gives its bit 0. -/
theorem Cursor.next_refill (h : c.bitcnt = 0) (hlt : c.inPos.toNat < inLen.toNat) :
    c.next imem inLen = some ((Memory.read imem c.inPos.toNat).getLsbD 0,
      { inPos := c.inPos + 1, bitbuf := Memory.read imem c.inPos.toNat >>> 1, bitcnt := 7 }) := by
  rw [Cursor.next, if_pos h, if_neg (by omega)]

theorem Cursor.next_residual (h : c.bitcnt ≠ 0) : c.next imem inLen =
    some (c.bitbuf.getLsbD 0, { inPos := c.inPos, bitbuf := c.bitbuf >>> 1, bitcnt := c.bitcnt - 1 }) :=
  if_neg h

end Cursor

variable {s : State}

theorem stateSource_next_of_cursor {b : Bool} {c : Cursor s.aw} (h : s.cur.next s.imem s.inLen = some (b, c)) :
    stateSource.next s = some (b, { s with cur := c }) := by
  simp [stateSource, h]

theorem cursorInv_with_cur_iff {c : Cursor s.aw} : CursorInv { s with cur := c } ↔
    c.inPos.toNat ≤ s.inLen.toNat ∧ c.bitbuf.toNat < 2 ^ c.bitcnt.toNat ∧
    (c.bitcnt ≠ 0 → 1 ≤ c.inPos.toNat ∧
      c.bitbuf = Memory.read s.imem (c.inPos.toNat - 1) >>> (8 - c.bitcnt.toNat)) :=
  Iff.rfl

/-- The next bit is the stream bit at the cursor; taking it moves the cursor past it and keeps the cursor's invariants. -/
def GivesStreamBit (s : State) : Prop :=
  ∃ c, stateSource.next s = some (streamBit s.imem s.cur.bitIndex, { s with cur := c }) ∧
    CursorInv { s with cur := c } ∧ c.bitIndex = s.cur.bitIndex + 1

theorem givesStreamBit_of_cursor {b : Bool} {c : Cursor s.aw} (hnext : s.cur.next s.imem s.inLen = some (b, c))
    (hbit : streamBit s.imem s.cur.bitIndex = b) (hinv : CursorInv { s with cur := c })
    (hidx : c.bitIndex = s.cur.bitIndex + 1) : GivesStreamBit s :=
  ⟨c, hbit ▸ stateSource_next_of_cursor hnext, hinv, hidx⟩

theorem givesStreamBit_of_refill (h0 : s.cur.bitcnt = 0) (hlt : s.cur.inPos.toNat < s.inLen.toNat) :
    GivesStreamBit s := by
  have hpos := addr_add_one hlt
  have hidx := Cursor.bitIndex_of_bitcnt_eq_zero h0
  have hbuf : (Memory.read s.imem s.cur.inPos.toNat >>> 1).toNat < 2 ^ 7 := by
    rw [BitVec.toNat_ushiftRight, Nat.shiftRight_one]
    omega
  refine givesStreamBit_of_cursor (Cursor.next_refill h0 hlt) ?_
    (cursorInv_with_cur_iff.2 ⟨hpos.trans_le hlt, hbuf, fun _ => ⟨?_, ?_⟩⟩) ?_
  · simp [streamBit, hidx]
  · exact hpos ▸ Nat.le_add_left ..
  · rw [hpos]
    rfl
  · change 8 * (s.cur.inPos + 1).toNat - 7 = s.cur.bitIndex + 1
    omega

theorem CursorInv.givesStreamBit_of_residual (h : CursorInv s) (h0 : s.cur.bitcnt ≠ 0) : GivesStreamBit s := by
  obtain ⟨hpos, hlt, hres⟩ := h
  obtain ⟨h1, hbuf⟩ := hres h0
  have hcnt : 1 ≤ s.cur.bitcnt.toNat := by bv_omega
  have hle : s.cur.bitcnt.toNat < 8 := s.cur.bitcnt.isLt
  have hdec : (s.cur.bitcnt - 1).toNat = s.cur.bitcnt.toNat - 1 := by bv_omega
  refine givesStreamBit_of_cursor (Cursor.next_residual h0) ?_
    (cursorInv_with_cur_iff.2 ⟨hpos, ?_, fun _ => ⟨h1, ?_⟩⟩) ?_
  · have hdiv : s.cur.bitIndex / 8 = s.cur.inPos.toNat - 1 := by unfold Cursor.bitIndex; omega
    have hmod : s.cur.bitIndex % 8 = 8 - s.cur.bitcnt.toNat := by unfold Cursor.bitIndex; omega
    rw [streamBit, hdiv, hmod, hbuf, BitVec.getLsbD_ushiftRight, Nat.add_zero]
  · have hpow : 2 ^ s.cur.bitcnt.toNat = 2 ^ (s.cur.bitcnt.toNat - 1) * 2 := by
      rw [← pow_succ, Nat.sub_add_cancel hcnt]
    rw [hdec, BitVec.toNat_ushiftRight, Nat.shiftRight_one]
    omega
  · have hsum : 8 - s.cur.bitcnt.toNat + 1 = 8 - (s.cur.bitcnt.toNat - 1) := by omega
    rw [hdec, hbuf, ← BitVec.shiftRight_add, hsum]
  · change 8 * s.cur.inPos.toNat - (s.cur.bitcnt - 1).toNat = 8 * s.cur.inPos.toNat - s.cur.bitcnt.toNat + 1
    omega

/-- The bits from the cursor to the end of the input are the stream bits. -/
theorem CursorInv.givesStreamBit (h : CursorInv s) (hlt : s.cur.bitIndex < 8 * s.inLen.toNat) : GivesStreamBit s := by
  by_cases h0 : s.cur.bitcnt = 0
  · rw [Cursor.bitIndex_of_bitcnt_eq_zero h0] at hlt
    exact givesStreamBit_of_refill h0 (by omega)
  · exact h.givesStreamBit_of_residual h0

/-- Residual bits are what stands between the cursor and the byte at `in_pos`. -/
theorem CursorInv.bitIndex_add_bitcnt (h : CursorInv s) :
    s.cur.bitIndex + s.cur.bitcnt.toNat = 8 * s.cur.inPos.toNat := by
  obtain ⟨-, -, hres⟩ := h
  by_cases h0 : s.cur.bitcnt = 0
  · rw [Cursor.bitIndex_of_bitcnt_eq_zero h0]
    bv_omega
  · obtain ⟨h1, -⟩ := hres h0
    unfold Cursor.bitIndex
    omega

theorem CursorInv.bitIndex_le (h : CursorInv s) : s.cur.bitIndex ≤ 8 * s.inLen.toNat := by
  have hidx := h.bitIndex_add_bitcnt
  obtain ⟨hpos, -, -⟩ := h
  omega

theorem CursorInv.align (h : CursorInv s) : CursorInv (stateSource.align s) := by
  obtain ⟨hpos, -, -⟩ := h
  exact cursorInv_with_cur_iff.2 ⟨hpos, Nat.one_pos, fun h0 => absurd rfl h0⟩

/-- With no residual bits the residual is 0, so dropping it changes nothing. -/
theorem CursorInv.align_eq_self (h : CursorInv s) (h0 : s.cur.bitcnt = 0) : stateSource.align s = s := by
  obtain ⟨-, hlt, -⟩ := h
  have hbuf : s.cur.bitbuf = 0 := by
    rw [h0] at hlt
    exact BitVec.eq_of_toNat_eq (by simpa using hlt)
  have hcur : s.cur.align = s.cur := by rw [Cursor.align, ← hbuf, ← h0]
  simp [stateSource, hcur]

/-- A cursor at the end of the input has loaded every byte and used every bit (40_bitreader R135). -/
theorem CursorInv.at_end (h : CursorInv s) (hend : s.cur.bitIndex = 8 * s.inLen.toNat) :
    s.cur.bitcnt = 0 ∧ s.cur.inPos = s.inLen := by
  have hidx := h.bitIndex_add_bitcnt
  obtain ⟨hpos, -, -⟩ := h
  exact ⟨BitVec.eq_of_toNat_eq (by simp; omega), BitVec.eq_of_toNat_eq (by omega)⟩

theorem CursorInv.next_eq_none (h : CursorInv s) (hend : s.cur.bitIndex = 8 * s.inLen.toNat) :
    stateSource.next s = none := by
  obtain ⟨h0, hpos⟩ := h.at_end hend
  have hnone : s.cur.next s.imem s.inLen = none := (cursor_next_none ..).2 ⟨h0, by rw [hpos]⟩
  simp [stateSource, hnone]

theorem CursorInv.atEndOfInput_eq (h : CursorInv s) (hend : s.cur.bitIndex = 8 * s.inLen.toNat) :
    s.atEndOfInput = s := by
  obtain ⟨h0, hpos⟩ := h.at_end hend
  calc s.atEndOfInput = { s with cur := { inPos := s.cur.inPos, bitbuf := 0, bitcnt := 0 } } := by
        rw [hpos, State.atEndOfInput]
    _ = s := h.align_eq_self h0

end Sys2Proof.Machine
end

section
/-! PROOFS. A field of several bits (40_bitreader R130, R131): `readBits` and `fieldValue` one bit at a time. -/

namespace Sys2Proof.Machine

/-- The value of a field of `n + 1` bits, from its first bit and the value of the `n` bits after it (00_scope R9). -/
def joinBit (o : Order) (n : Nat) (b : Bool) (v : Nat) : Nat :=
  match o with
  | .lsb => b.toNat + 2 * v
  | .msb => b.toNat * 2 ^ n + v

section Source

variable {σ : Type} {src : Source σ} {s t : σ} {b : Bool} {n : Nat} {o : Order}

theorem readBits_succ_of_next_eq_none (h : src.next s = none) :
    readBits src (n + 1) o s = .err .unexpectedEndOfInput s := by
  cases o <;> simp [readBits, readLsb, readMsb, h]

theorem readBits_succ_of_next (h : src.next s = some (b, t)) :
    readBits src (n + 1) o s = (readBits src n o t).bind fun v u => .ok (joinBit o n b v) u := by
  cases o with
  | lsb => simp only [readBits, readLsb, h]; cases readLsb src n t <;> rfl
  | msb => simp only [readBits, readMsb, h]; cases readMsb src n t <;> rfl

end Source

theorem fieldValue_succ (imem : Memory) (p n : Nat) (o : Order) :
    fieldValue imem p (n + 1) o = joinBit o n (streamBit imem p) (fieldValue imem (p + 1) n o) := by
  have hnext : ∀ i, streamBit imem (p + (i + 1)) = streamBit imem (p + 1 + i) := fun i => by
    rw [Nat.add_right_comm, Nat.add_assoc]
  simp only [fieldValue, List.range_succ_eq_map, List.map_cons, List.map_map, List.sum_cons, Function.comp_def, hnext]
  cases o with
  | lsb => simp [joinBit, ← List.sum_map_mul_left, pow_succ', Nat.mul_left_comm]
  | msb => simp [joinBit, Nat.sub_add_eq, Nat.sub_right_comm]

variable {s : State} {n : Nat}

theorem CursorInv.readBits_ok (h : CursorInv s) (o : Order) (hn : s.cur.bitIndex + n ≤ 8 * s.inLen.toNat) :
    ∃ c, readBits stateSource n o s = .ok (fieldValue s.imem s.cur.bitIndex n o) { s with cur := c } ∧
      CursorInv { s with cur := c } ∧ c.bitIndex = s.cur.bitIndex + n := by
  induction n generalizing s with
  | zero => exact ⟨s.cur, readBits_zero .., h, rfl⟩
  | succ n ih =>
    obtain ⟨c, hnext, hc, hidx⟩ := h.givesStreamBit (by omega)
    obtain ⟨d, hread, hd, hidx'⟩ := ih hc (by simp only [hidx]; omega)
    refine ⟨d, ?_, hd, ?_⟩
    · rw [readBits_succ_of_next hnext, hread, fieldValue_succ]
      simp [Rd.bind, hidx]
    · simp only [hidx', hidx]; omega

theorem CursorInv.readBits_err (h : CursorInv s) (o : Order) (hn : 8 * s.inLen.toNat < s.cur.bitIndex + n) :
    readBits stateSource n o s = .err .unexpectedEndOfInput s.atEndOfInput := by
  have hle := h.bitIndex_le
  induction n generalizing s with
  | zero => omega
  | succ n ih =>
    obtain hlt | hend := hle.lt_or_eq
    · obtain ⟨c, hnext, hc, hidx⟩ := h.givesStreamBit hlt
      rw [readBits_succ_of_next hnext, ih hc (by simp only [hidx]; omega) hc.bitIndex_le]
      rfl
    · rw [readBits_succ_of_next_eq_none (h.next_eq_none hend), h.atEndOfInput_eq hend]

end Sys2Proof.Machine
end

section
/-! PROOFS. The statements of 40_bitreader. -/

namespace Sys2Proof.Machine

/-- Settles O1, by induction on the count: each bit is the stream bit at the cursor until the input ends. -/
theorem readBitsReadsTheStream : Obligations.ReadBitsReadsTheStream :=
  fun _ _ o h => ⟨h.readBits_ok o, h.readBits_err o⟩

/-- Settles O2: at most 7 residual bits stand before the byte at `in_pos`, and with none left the next bit refills from it. -/
theorem alignDropsTheResidualBits : Obligations.AlignDropsTheResidualBits := by
  intro s h
  have hidx := h.bitIndex_add_bitcnt
  have hcnt : s.cur.bitcnt.toNat < 8 := s.cur.bitcnt.isLt
  refine ⟨rfl, h.align, ?_, h.align_eq_self, fun hlt => ?_⟩
  · calc (stateSource.align s).cur.bitIndex = 8 * s.cur.inPos.toNat := Cursor.bitIndex_of_bitcnt_eq_zero rfl
      _ = 8 * ((s.cur.bitIndex + 7) / 8) := by omega
  · exact ⟨_, stateSource_next_of_cursor (Cursor.next_refill rfl hlt), addr_add_one hlt⟩

end Sys2Proof.Machine
end

section
/-! PROOFS. The start codes (41 R151 to R153): the histogram counts the symbols of each length, the recurrence over it, and
what a passed check of R152 says of it. -/

namespace Sys2Proof.Machine

variable {L : List Nat} {m l : Nat}

@[simp] theorem length_histogram (L : List Nat) (m : Nat) : (histogram L m).length = m + 1 := by
  simp [histogram]

theorem getD_countLengths (L count : List Nat) (hl : l < count.length) :
    (countLengths L count).getD l 0 = count.getD l 0 + if l = 0 then 0 else L.count l := by
  induction L generalizing count with
  | nil => simp [countLengths]
  | cons a as ih =>
    rw [countLengths]
    split
    next ha => rw [ih count hl, List.count_cons]; grind
    next ha => rw [ih _ (by simpa using hl), getD_bumpAt _ _ _ hl, List.count_cons]; grind

/-- 41 R151: the count of a length, 0 for length 0. -/
theorem getD_histogram (hl : l ≤ m) : (histogram L m).getD l 0 = if l = 0 then 0 else L.count l := by
  have h := getD_countLengths L (List.replicate (m + 1) 0) (l := l) (by simpa using Nat.lt_succ_of_le hl)
  simpa [histogram] using h

theorem getD_startsFrom_succ (start : Nat) (count : List Nat) (hl : l + 1 < count.length) :
    (startsFrom start count).getD (l + 1) 0 = ((startsFrom start count).getD l 0 + count.getD l 0) * 2 := by
  induction count generalizing start l with
  | nil => simp at hl
  | cons c cs ih =>
    cases l with
    | zero =>
      cases cs with
      | nil => simp at hl
      | cons d ds => simp [startsFrom]
    | succ l => simpa [startsFrom] using ih _ (by simpa using hl)

theorem startCodes_zero (L : List Nat) (m : Nat) : (startCodes L m).getD 0 0 = 0 := by
  rcases h : histogram L m with _ | ⟨c, cs⟩ <;> simp [startCodes, h, startsFrom]

/-- 41 R153, the recurrence. -/
theorem startCodes_succ (hl : l + 1 ≤ m) :
    (startCodes L m).getD (l + 1) 0 = ((startCodes L m).getD l 0 + if l = 0 then 0 else L.count l) * 2 := by
  rw [startCodes, getD_startsFrom_succ _ _ (by simpa using Nat.lt_succ_of_le hl), getD_histogram (by omega)]

/-- Along a passed check, the codes of a length end within what the start code and the codes left free before it allow. -/
theorem startsFrom_add_le {count : List Nat} {left : Nat} (start : Nat) (h : kraftFails count left = false)
    (hl : l < count.length) : (startsFrom start count).getD l 0 + count.getD l 0 ≤ (2 * left + start) * 2 ^ l := by
  induction count generalizing start left l with
  | nil => simp at hl
  | cons c cs ih =>
    have hc : ¬ 2 * left < c := fun hlt => by simp [kraftFails, hlt] at h
    rw [kraftFails, if_neg hc] at h
    cases l with
    | zero => simp [startsFrom]; omega
    | succ l =>
      have hl : l < cs.length := by simpa using hl
      calc (startsFrom ((start + c) * 2) cs).getD l 0 + cs.getD l 0
          ≤ (2 * (2 * left - c) + (start + c) * 2) * 2 ^ l := ih _ h hl
        _ = (2 * left + start) * 2 * 2 ^ l := by congr 1; omega
        _ = (2 * left + start) * 2 ^ (l + 1) := by rw [pow_succ']; ring

theorem histogram_eq_cons (L : List Nat) (m : Nat) : histogram L m = 0 :: (histogram L m).drop 1 := by
  have h0 := getD_histogram (L := L) (Nat.zero_le m)
  have hlen := length_histogram L m
  rcases h : histogram L m with _ | ⟨c, cs⟩ <;> simp_all

/-- 41 R153: after a passed check the codes of `l` bits end at `2 ^ l` or below. -/
theorem startCodes_add_count_le (h : overSubscribed L m = false) (h1 : 1 ≤ l) (hl : l ≤ m) :
    (startCodes L m).getD l 0 + L.count l ≤ 2 ^ l := by
  obtain ⟨k, rfl⟩ : ∃ k, l = k + 1 := ⟨l - 1, by omega⟩
  have hcount : ((histogram L m).drop 1).getD k 0 = L.count (k + 1) := by
    simpa [Nat.add_comm 1] using getD_histogram (L := L) hl
  have hstart : (startCodes L m).getD (k + 1) 0 = (startsFrom 0 ((histogram L m).drop 1)).getD k 0 := by
    rw [startCodes, histogram_eq_cons]; simp [startsFrom]
  rw [hstart, ← hcount, pow_succ']
  exact startsFrom_add_le 0 h (by simpa using hl)

/-- The codes of a shorter length end where those of a longer one start, or below, when both are left-aligned. -/
theorem startCodes_add_count_mul_le {k : Nat} (h1 : 1 ≤ l) (hk : l < k) (hm : k ≤ m) :
    ((startCodes L m).getD l 0 + L.count l) * 2 ^ (k - l) ≤ (startCodes L m).getD k 0 := by
  induction k, hk using Nat.le_induction with
  | base => rw [startCodes_succ hm, if_neg (by omega)]; simp
  | succ k hk ih =>
    rw [startCodes_succ hm, if_neg (by omega), show k + 1 - l = k - l + 1 by omega, pow_succ, ← mul_assoc]
    exact Nat.mul_le_mul_right 2 ((ih (by omega)).trans (Nat.le_add_right _ _))

end Sys2Proof.Machine
end

section
/-! PROOFS. The codes of an accepted table (41 R154, R155), and the bits of a number, most significant first. -/

namespace Sys2Proof.Machine

variable {L : List Nat} {m : Nat} {c d : Code}

theorem length_assignCodes_le (L : List Nat) (i : Nat) (next : List Nat) : (assignCodes L i next).length ≤ L.length := by
  induction L generalizing i next with
  | nil => simp [assignCodes]
  | cons a as ih =>
    rw [assignCodes]
    split
    · exact (ih _ _).trans (Nat.le_succ _)
    · exact Nat.succ_le_succ (ih _ _)

theorem sym_of_mem_assignCodes {i : Nat} {next : List Nat} (h : c ∈ assignCodes L i next) :
    ∃ k, c.sym = i + k ∧ L[k]? = some c.len ∧ c.len ≠ 0 := by
  induction L generalizing i next with
  | nil => simp [assignCodes] at h
  | cons a as ih =>
    have hrest : ∀ {next'}, c ∈ assignCodes as (i + 1) next' →
        ∃ k, c.sym = i + k ∧ (a :: as)[k]? = some c.len ∧ c.len ≠ 0 := by
      intro next' h'
      obtain ⟨k, hsym, hk, h0⟩ := ih h'
      exact ⟨k + 1, by omega, by simpa using hk, h0⟩
    rw [assignCodes] at h
    split at h
    next => exact hrest h
    next ha =>
      rcases List.mem_cons.1 h with rfl | h
      · exact ⟨0, rfl, rfl, ha⟩
      · exact hrest h

theorem pairwise_sym_assignCodes (L : List Nat) (i : Nat) (next : List Nat) :
    (assignCodes L i next).Pairwise fun c d => c.sym < d.sym := by
  induction L generalizing i next with
  | nil => simp [assignCodes]
  | cons a as ih =>
    rw [assignCodes]
    split
    · exact ih _ _
    · refine List.pairwise_cons.2 ⟨fun d hd => ?_, ih _ _⟩
      obtain ⟨k, hk, -⟩ := sym_of_mem_assignCodes hd
      dsimp only
      omega

/-- 41 R154: the codes stand in increasing order of their symbols. -/
theorem pairwise_sym_codes (L : List Nat) (m : Nat) : (codes L m).Pairwise fun c d => c.sym < d.sym :=
  pairwise_sym_assignCodes _ _ _

theorem length_codes_le (L : List Nat) (m : Nat) : (codes L m).length ≤ L.length := length_assignCodes_le _ _ _

/-- A symbol has at most one code. -/
theorem eq_of_mem_codes_of_sym_eq (hc : c ∈ codes L m) (hd : d ∈ codes L m) (h : c.sym = d.sym) : c = d :=
  List.inj_on_of_nodup_map (List.pairwise_map.2 ((pairwise_sym_codes L m).imp fun hlt => hlt.ne)) hc hd h

/-- 41 R154: the closed form of every code. -/
theorem closed_form_of_mem_codes (hL : LengthsFit L m) (hc : c ∈ codes L m) :
    L[c.sym]? = some c.len ∧ 1 ≤ c.len ∧ c.len ≤ m ∧
      c.code = (startCodes L m).getD c.len 0 + (L.take c.sym).count c.len := by
  obtain ⟨k, hsym, hk, h0⟩ := sym_of_mem_assignCodes hc
  obtain rfl : k = c.sym := by omega
  have hm := hL _ (List.mem_of_getElem? hk)
  have hfind := find?_codes hk h0 hm
  have heq := eq_of_mem_codes_of_sym_eq (List.mem_of_find?_eq_some hfind) hc rfl
  exact ⟨hk, Nat.one_le_iff_ne_zero.2 h0, hm, congrArg Code.code heq.symm⟩

theorem len_of_mem_codes (hL : LengthsFit L m) (hc : c ∈ codes L m) : 1 ≤ c.len ∧ c.len ≤ m := by
  obtain ⟨-, h1, hm, -⟩ := closed_form_of_mem_codes hL hc
  exact ⟨h1, hm⟩

theorem sym_lt_length_of_mem_codes (hL : LengthsFit L m) (hc : c ∈ codes L m) : c.sym < L.length := by
  obtain ⟨hk, -⟩ := closed_form_of_mem_codes hL hc
  exact (List.getElem?_eq_some_iff.1 hk).1

/-- Fewer symbols of length `l` stand before a symbol of that length than before any later place. -/
theorem count_take_lt {k j l : Nat} (hk : L[k]? = some l) (hj : k < j) : (L.take k).count l < (L.take j).count l := by
  have h : (L.take (k + 1)).count l ≤ (L.take j).count l :=
    (List.take_sublist_take_left (Nat.succ_le_of_lt hj)).count_le l
  rw [List.take_add_one, hk, List.count_append] at h
  simp at h
  omega

/-- The codes of one length end below the start code plus the number of symbols of that length. -/
theorem code_lt_of_mem_codes (hL : LengthsFit L m) (hc : c ∈ codes L m) :
    c.code < (startCodes L m).getD c.len 0 + L.count c.len := by
  obtain ⟨hk, -, -, hcode⟩ := closed_form_of_mem_codes hL hc
  have h := count_take_lt hk (sym_lt_length_of_mem_codes hL hc)
  rw [List.take_length] at h
  omega

/-- 41 R155: a code fits its length. -/
theorem code_lt_two_pow_of_mem_codes (hL : LengthsFit L m) (ho : overSubscribed L m = false) (hc : c ∈ codes L m) :
    c.code < 2 ^ c.len := by
  obtain ⟨h1, hm⟩ := len_of_mem_codes hL hc
  exact (code_lt_of_mem_codes hL hc).trans_le (startCodes_add_count_le ho h1 hm)

/-- 41 R155: codes of one length rise with the symbol. -/
theorem code_lt_code_of_sym_lt (hL : LengthsFit L m) (hc : c ∈ codes L m) (hd : d ∈ codes L m) (hlen : c.len = d.len)
    (hsym : c.sym < d.sym) : c.code < d.code := by
  obtain ⟨hk, -, -, hcode⟩ := closed_form_of_mem_codes hL hc
  obtain ⟨-, -, -, hcode'⟩ := closed_form_of_mem_codes hL hd
  have h := count_take_lt hk hsym
  rw [hcode, hcode', ← hlen]
  omega

/-- The successor of a shorter code, left-aligned, is at most a longer one. -/
theorem code_succ_mul_le_of_len_lt (hL : LengthsFit L m) (hc : c ∈ codes L m) (hd : d ∈ codes L m) (hlen : c.len < d.len) :
    (c.code + 1) * 2 ^ (d.len - c.len) ≤ d.code := by
  obtain ⟨h1, -⟩ := len_of_mem_codes hL hc
  obtain ⟨-, -, hm, hcode⟩ := closed_form_of_mem_codes hL hd
  calc (c.code + 1) * 2 ^ (d.len - c.len)
      ≤ ((startCodes L m).getD c.len 0 + L.count c.len) * 2 ^ (d.len - c.len) :=
        Nat.mul_le_mul_right _ (code_lt_of_mem_codes hL hc)
    _ ≤ (startCodes L m).getD d.len 0 := startCodes_add_count_mul_le h1 hlen hm
    _ ≤ d.code := by omega

/-- 41 R155: a shorter code is below a longer one, both left-aligned. -/
theorem code_mul_lt_of_len_lt (hL : LengthsFit L m) (hc : c ∈ codes L m) (hd : d ∈ codes L m) (hlen : c.len < d.len) :
    c.code * 2 ^ (m - c.len) < d.code * 2 ^ (m - d.len) := by
  obtain ⟨-, hm⟩ := len_of_mem_codes hL hd
  calc c.code * 2 ^ (m - c.len) < (c.code + 1) * 2 ^ (m - c.len) := by gcongr; omega
    _ = (c.code + 1) * 2 ^ (d.len - c.len) * 2 ^ (m - d.len) := by
      rw [mul_assoc, ← pow_add]; congr 2; omega
    _ ≤ d.code * 2 ^ (m - d.len) := Nat.mul_le_mul_right _ (code_succ_mul_le_of_len_lt hL hc hd hlen)

end Sys2Proof.Machine
end

section
/-! PROOFS. The bits of a number, most significant first, as code words and trie edges spell them (20_memory R63). -/

namespace Sys2Proof.Machine

/-- The low `n` bits of `v`, the most significant first. -/
def msbBits (n v : Nat) : List Bool := (List.range n).map fun j => v.testBit (n - 1 - j)

theorem Code.bits_eq (c : Code) : c.bits = msbBits c.len c.code := rfl

variable {n l v w : Nat}

@[simp] theorem length_msbBits (n v : Nat) : (msbBits n v).length = n := by simp [msbBits]

@[simp] theorem msbBits_zero (v : Nat) : msbBits 0 v = [] := rfl

theorem getElem?_msbBits (hl : l < n) : (msbBits n v)[l]? = some (v.testBit (n - 1 - l)) := by
  simp [msbBits, hl]

theorem drop_msbBits (n v k : Nat) : (msbBits n v).drop k = msbBits (n - k) v := by
  refine List.ext_getElem (by simp) fun j h _ => ?_
  simp only [msbBits, List.getElem_drop, List.getElem_map, List.getElem_range]
  congr 1
  omega

theorem take_msbBits (hl : l ≤ n) : (msbBits n v).take l = msbBits l (v >>> (n - l)) := by
  refine List.ext_getElem (by simpa using hl) fun j h _ => ?_
  simp only [List.length_take, length_msbBits] at h
  simp only [msbBits, List.getElem_take, List.getElem_map, List.getElem_range, Nat.testBit_shiftRight]
  congr 1
  omega

theorem msbBits_mod_two_pow {k : Nat} (h : n ≤ k) (v : Nat) : msbBits n (v % 2 ^ k) = msbBits n v := by
  refine List.ext_getElem (by simp) fun j hj _ => ?_
  simp only [length_msbBits] at hj
  simp only [msbBits, List.getElem_map, List.getElem_range, Nat.testBit_mod_two_pow]
  simp
  omega

theorem msbBits_inj (hv : v < 2 ^ n) (hw : w < 2 ^ n) : msbBits n v = msbBits n w ↔ v = w := by
  refine ⟨fun h => Nat.eq_of_testBit_eq fun i => ?_, fun h => h ▸ rfl⟩
  by_cases hi : i < n
  · have hbit := congrArg (·[n - 1 - i]?) h
    simpa [getElem?_msbBits (show n - 1 - i < n by omega), show n - 1 - (n - 1 - i) = i by omega] using hbit
  · have hle : 2 ^ n ≤ 2 ^ i := Nat.pow_le_pow_right (by decide) (by omega)
    rw [Nat.testBit_lt_two_pow (hv.trans_le hle), Nat.testBit_lt_two_pow (hw.trans_le hle)]

/-- One more bit at the end. -/
theorem msbBits_append (l v : Nat) (b : Bool) : msbBits (l + 1) (v * 2 + b.toNat) = msbBits l v ++ [b] := by
  have hdiv : (v * 2 + b.toNat) >>> 1 = v := by have := b.toNat_lt; rw [Nat.shiftRight_one]; omega
  have hlast : msbBits 1 (v * 2 + b.toNat) = [b] := by cases b <;> simp [msbBits]
  rw [← List.take_append_drop l (msbBits (l + 1) _), take_msbBits (by omega), drop_msbBits,
    Nat.add_sub_cancel_left, hdiv, hlast]

/-- What a run of first bits says of the numbers. -/
theorem msbBits_prefix_iff (hv : v < 2 ^ l) (hw : w < 2 ^ n) :
    msbBits l v <+: msbBits n w ↔ l ≤ n ∧ w >>> (n - l) = v := by
  rw [List.prefix_iff_eq_take, length_msbBits]
  refine ⟨fun h => ?_, fun ⟨hl, h⟩ => by rw [take_msbBits hl, h]⟩
  have hl : l ≤ n := by simpa using congrArg List.length h
  have hlt : w >>> (n - l) < 2 ^ l := by
    rw [Nat.shiftRight_eq_div_pow]
    exact Nat.div_lt_of_lt_mul (by rwa [← pow_add, Nat.sub_add_cancel hl])
  rw [take_msbBits hl, msbBits_inj hv hlt] at h
  exact ⟨hl, h.symm⟩

/-- 41 R155: no code begins with the bits of another. -/
theorem eq_of_bits_prefix {L : List Nat} {m : Nat} {c d : Code} (hL : LengthsFit L m) (ho : overSubscribed L m = false)
    (hc : c ∈ codes L m) (hd : d ∈ codes L m) (h : c.bits <+: d.bits) : c = d := by
  rw [Code.bits_eq, Code.bits_eq, msbBits_prefix_iff (code_lt_two_pow_of_mem_codes hL ho hc)
    (code_lt_two_pow_of_mem_codes hL ho hd)] at h
  obtain ⟨hle, hcode⟩ := h
  rcases hle.lt_or_eq with hlt | heq
  · have hsucc := code_succ_mul_le_of_len_lt hL hc hd hlt
    rw [← Nat.le_div_iff_mul_le (by positivity), ← Nat.shiftRight_eq_div_pow, hcode] at hsucc
    omega
  · rw [heq, Nat.sub_self, Nat.shiftRight_zero] at hcode
    refine eq_of_mem_codes_of_sym_eq hc hd (Nat.le_antisymm ?_ ?_) <;> by_contra hsym
    · exact (code_lt_code_of_sym_lt hL hd hc heq.symm (by omega)).ne hcode
    · exact (code_lt_code_of_sym_lt hL hc hd heq (by omega)).ne hcode.symm

end Sys2Proof.Machine
end

section
/-! PROOFS. The statements of 41_huffman_table_builder on start codes and codes. -/

namespace Sys2Proof.Machine

/-- Settles O4: the recurrence is the one of the loop, and what the check leaves free bounds every start code. -/
theorem startCodesFollowTheRecurrence : Obligations.StartCodesFollowTheRecurrence := by
  intro L m hL
  refine ⟨startCodes_zero L m, fun l h1 hl => ?_, fun ho l h1 hl => ?_⟩
  · obtain ⟨k, rfl⟩ : ∃ k, l = k + 1 := ⟨l - 1, by omega⟩
    rw [startCodes_succ hl, Nat.shiftLeft_eq, pow_one, Nat.add_sub_cancel]
  · have hle := startCodes_add_count_le ho h1 hl
    refine ⟨hle, fun hm => ?_⟩
    calc (startCodes L m).getD l 0 ≤ 2 ^ l := by omega
      _ < 2 ^ 16 := Nat.pow_lt_pow_right (by decide) (by omega)

/-- Settles O6: every code lies between the start code of its length and that plus the symbols of the length, and these ranges,
left-aligned, follow one another. -/
theorem codesArePrefixFreeAndOrdered : Obligations.CodesArePrefixFreeAndOrdered :=
  fun _ _ hL ho _ hc => ⟨code_lt_two_pow_of_mem_codes hL ho hc, fun _ hd =>
    ⟨eq_of_bits_prefix hL ho hc hd, code_lt_code_of_sym_lt hL hc hd, code_mul_lt_of_len_lt hL hc hd⟩⟩

end Sys2Proof.Machine
end

section
/-! PROOFS. The loop of `Decode` (41 R160, R161) by the words that are still ahead: what is left of each code that begins with the
bits read so far. -/

namespace Sys2Proof.Machine

variable {cs : List Code} {v l : Nat} {P : List Bool → Nat → Prop}

theorem Code.hasPrefix_iff_prefix {c : Code} (hc : c.code < 2 ^ c.len) (hv : v < 2 ^ l) :
    c.hasPrefix l v = true ↔ 1 ≤ c.len ∧ msbBits l v <+: c.bits := by
  rw [Code.hasPrefix_iff, Code.bits_eq, msbBits_prefix_iff hv hc]

/-- Some bits of value `v`, `l` of them, have been read, and `P w x` says which words `w` can follow and what symbol `x` each then
gives: the codes of `cs` that begin with the bits read, without them. -/
structure Ahead (cs : List Code) (v l : Nat) (P : List Bool → Nat → Prop) : Prop where
  fits : ∀ c ∈ cs, 1 ≤ c.len ∧ c.code < 2 ^ c.len
  read : v < 2 ^ l
  word_iff : ∀ w x, P w x ↔ ∃ c ∈ cs, c.sym = x ∧ c.bits = msbBits l v ++ w

namespace Ahead

variable (h : Ahead cs v l P)
include h

theorem hasPrefix_iff {c : Code} (hc : c ∈ cs) : c.hasPrefix l v = true ↔ msbBits l v <+: c.bits := by
  obtain ⟨h1, hlt⟩ := h.fits c hc
  rw [Code.hasPrefix_iff_prefix hlt h.read, and_iff_right h1]

theorem isWord_iff {c : Code} (hc : c ∈ cs) : c.isWord l v = true ↔ c.bits = msbBits l v := by
  obtain ⟨h1, hlt⟩ := h.fits c hc
  rw [Code.isWord_iff, Code.bits_eq]
  constructor
  · rintro ⟨hl, -, hv⟩
    rw [hl, hv]
  · intro heq
    obtain rfl : c.len = l := by simpa using congrArg List.length heq
    exact ⟨rfl, h1, (msbBits_inj hlt h.read).1 heq⟩

/-- The codes the loop carries on are those with a word ahead. -/
theorem word_iff_live (w : List Bool) (x : Nat) :
    P w x ↔ ∃ c ∈ cs.filter (fun c => c.hasPrefix l v), c.sym = x ∧ c.bits = msbBits l v ++ w := by
  rw [h.word_iff]
  refine exists_congr fun c => ⟨fun ⟨hc, hx, hw⟩ => ⟨?_, hx, hw⟩, fun ⟨hc, hxw⟩ => ⟨List.mem_of_mem_filter hc, hxw⟩⟩
  exact List.mem_filter.2 ⟨hc, (h.hasPrefix_iff hc).2 ⟨w, hw.symm⟩⟩

theorem filter_eq_nil_iff : cs.filter (fun c => c.hasPrefix l v) = [] ↔ ∀ w x, ¬ P w x := by
  rw [List.filter_eq_nil_iff]
  constructor
  · intro hnil w x hw
    obtain ⟨c, hc, -, hbits⟩ := (h.word_iff w x).1 hw
    exact hnil c hc ((h.hasPrefix_iff hc).2 ⟨w, hbits.symm⟩)
  · intro hno c hc hpre
    obtain ⟨w, hw⟩ := (h.hasPrefix_iff hc).1 hpre
    exact hno w c.sym ((h.word_iff w _).2 ⟨c, hc, rfl, hw.symm⟩)

/-- After one more bit, the words ahead are those that began with it. -/
theorem next (b : Bool) :
    Ahead (cs.filter fun c => c.hasPrefix l v) (v * 2 + b.toNat) (l + 1) fun w x => P (b :: w) x where
  fits c hc := h.fits c (List.mem_of_mem_filter hc)
  read := by have := h.read; have := b.toNat_lt; rw [pow_succ]; omega
  word_iff w x := by rw [h.word_iff_live, msbBits_append, List.append_assoc, List.singleton_append]

variable {σ : Type} (src : Source σ) (n : Nat) (s : σ)

/-- A dead end: no word is ahead. -/
theorem decodeLoop_of_none (hno : ∀ w x, ¬ P w x) : decodeLoop src n cs v l s = .err .incompleteHuffmanTable s := by
  cases n with
  | zero => rfl
  | succ n => simp [decodeLoop, h.filter_eq_nil_iff.2 hno]

/-- A whole word: only the empty word is ahead. -/
theorem decodeLoop_of_word {x : Nat} (hw : ∀ w y, P w y ↔ w = [] ∧ y = x) : decodeLoop src (n + 1) cs v l s = .ok x s := by
  obtain ⟨c, hc, -, hbits⟩ := (h.word_iff_live [] x).1 ((hw _ _).2 ⟨rfl, rfl⟩)
  rw [List.append_nil] at hbits
  have hword : ((cs.filter fun c => c.hasPrefix l v).find? fun c => c.isWord l v).isSome :=
    List.find?_isSome.2 ⟨c, hc, (h.isWord_iff (List.mem_of_mem_filter hc)).2 hbits⟩
  obtain ⟨d, hd⟩ := Option.isSome_iff_exists.1 hword
  have hdmem := List.mem_of_mem_filter (List.mem_of_find?_eq_some hd)
  have hdbits := (h.isWord_iff hdmem).1 (List.find?_some (p := fun c : Code => c.isWord l v) hd)
  have hsym := ((hw _ _).1 ((h.word_iff [] d.sym).2 ⟨d, hdmem, rfl, by rw [hdbits, List.append_nil]⟩)).2
  simp only [decodeLoop, hd, hsym]
  rw [if_neg (by simpa using List.ne_nil_of_mem hc)]

/-- Words are ahead, none of them empty: one more bit is read. -/
theorem decodeLoop_of_longer (hsome : ∃ w x, P w x) (hlong : ∀ x, ¬ P [] x) :
    decodeLoop src (n + 1) cs v l s = (readBits src 1 .msb s).bind fun b =>
      decodeLoop src n (cs.filter fun c => c.hasPrefix l v) (v * 2 + b) (l + 1) := by
  have hlive : cs.filter (fun c => c.hasPrefix l v) ≠ [] := fun hnil =>
    let ⟨w, x, hw⟩ := hsome
    h.filter_eq_nil_iff.1 hnil w x hw
  have hnone : (cs.filter fun c => c.hasPrefix l v).find? (fun c => c.isWord l v) = none := by
    refine List.find?_eq_none.2 fun c hc hword => hlong c.sym ?_
    have hc := List.mem_of_mem_filter hc
    exact (h.word_iff [] _).2 ⟨c, hc, rfl, by rw [(h.isWord_iff hc).1 hword, List.append_nil]⟩
  simp only [decodeLoop, hnone]
  rw [if_neg (by simpa using hlive)]
  cases readBits src 1 .msb s <;> rfl

end Ahead

/-- The bits expected on a node's edge, in stream order (41 R156). -/
def TrieNode.edge (nd : TrieNode) : List Bool := msbBits nd.skip nd.pre

@[simp] theorem TrieNode.length_edge (nd : TrieNode) : nd.edge.length = nd.skip := length_msbBits _ _

theorem testBit_of_drop_msbBits {n v j : Nat} {b : Bool} {e : List Bool} (h : (msbBits n v).drop j = b :: e) :
    v.testBit (n - 1 - j) = b ∧ (msbBits n v).drop (j + 1) = e := by
  have hj : j < n := by
    have hlen := congrArg List.length h
    simp at hlen
    omega
  have hget : ((msbBits n v).drop j)[0]? = some b := by rw [h]; rfl
  have htail : (msbBits n v).drop (j + 1) = e := by simpa using congrArg List.tail h
  rw [List.getElem?_drop, Nat.add_zero, getElem?_msbBits hj] at hget
  exact ⟨Option.some.inj hget, htail⟩

section Traverse

variable {σ : Type} (src : Source σ) {nodes : List TrieNode} {h : Nat} {skip : BitVec 4} {pre : BitVec 15}

theorem traverse_leaf {sym : BitVec 9} (hget : nodes[h]? = some (.leaf skip pre sym)) (n : Nat) (s : σ) :
    traverse src nodes (n + 1) h s =
      (followEdge src (.leaf skip pre sym) skip.toNat 0 s).bind fun _ t => .ok sym.toNat t := by
  rw [traverse, hget]
  dsimp only [TrieNode.skip]
  rcases followEdge src _ skip.toNat 0 s with ⟨-, t⟩ | ⟨e, t⟩ <;> rfl

theorem traverse_internal {c₀ c₁ : BitVec 10} (hget : nodes[h]? = some (.internal skip pre c₀ c₁)) (n : Nat) (s : σ) :
    traverse src nodes (n + 1) h s =
      (followEdge src (.internal skip pre c₀ c₁) skip.toNat 0 s).bind fun _ t =>
        (readBits src 1 .msb t).bind fun v u => traverse src nodes n (if v = 0 then c₀.toNat else c₁.toNat) u := by
  rw [traverse, hget]
  dsimp only [TrieNode.skip]
  rcases followEdge src _ skip.toNat 0 s with ⟨-, t⟩ | ⟨e, t⟩
  · dsimp only [Rd.bind_ok]
    rcases readBits src 1 .msb t with ⟨v, u⟩ | ⟨e, u⟩ <;> rfl
  · rfl

end Traverse

/-- Where every word ahead begins with the bits of an edge, the loop goes along the edge as the traversal does. -/
theorem Ahead.decodeLoop_edge {nd : TrieNode} {e : List Bool} {j : Nat} (h : Ahead cs v l P) (he : nd.edge.drop j = e)
    (hall : ∀ w x, P w x → e <+: w) (hsome : ∃ w x, P w x) :
    ∃ cs' v', Ahead cs' v' (l + e.length) (fun w x => P (e ++ w) x) ∧
      ∀ {σ : Type} (src : Source σ) (n : Nat) (s : σ), decodeLoop src (e.length + n) cs v l s =
        (followEdge src nd e.length j s).bind fun _ => decodeLoop src n cs' v' (l + e.length) := by
  induction e generalizing cs v l P j with
  | nil => exact ⟨cs, v, h, fun src n s => by simp [followEdge]⟩
  | cons b e ih =>
    obtain ⟨hbit, he'⟩ := testBit_of_drop_msbBits he
    have htail : ∀ w x, P (b :: w) x → e <+: w := fun w x hw => (List.cons_prefix_cons.1 (hall _ x hw)).2
    obtain ⟨w, x, hw⟩ := hsome
    obtain ⟨u, rfl⟩ := hall w x hw
    obtain ⟨cs', v', hahead, hloop⟩ := ih (h.next b) he' htail ⟨e ++ u, x, hw⟩
    have hl : l + 1 + e.length = l + (b :: e).length := by simp; omega
    rw [hl] at hahead hloop
    refine ⟨cs', v', hahead, fun src n s => ?_⟩
    have hlong : ∀ x, ¬ P [] x := fun x hx => by simpa using hall _ x hx
    rw [show (b :: e).length + n = e.length + n + 1 by simp; omega, h.decodeLoop_of_longer src _ s ⟨_, x, hw⟩ hlong]
    rcases readBits_one_msb_cases src s with ⟨-, hr⟩ | ⟨a, t, -, hr⟩
    · simp [followEdge, hr]
    · by_cases hab : a = b
      · subst hab
        simp [followEdge, hr, TrieNode.preBit, hbit, hloop]
      · have hdead : ∀ w x, ¬ P (a :: w) x := fun w x hw => hab (List.cons_prefix_cons.1 (hall _ x hw)).1.symm
        have hne : a.toNat ≠ b.toNat := by cases a <;> cases b <;> simp_all
        simp [followEdge, hr, TrieNode.preBit, hbit, hne, (h.next a).decodeLoop_of_none src _ t hdead]

end Sys2Proof.Machine
end

section
/-! PROOFS. The trie as a tree (41 R156): the words it spells, how an arena holds it, and that traversing it is the loop of
`Decode` on those words. -/

namespace Sys2Proof.Machine

/-- A trie without its arena: each node with its handle and the bits of its edge. -/
inductive CodeTree where
  | leaf (h : Nat) (edge : List Bool) (sym : Nat)
  | node (h : Nat) (edge : List Bool) (child : Bool → CodeTree)

namespace CodeTree

def handle : CodeTree → Nat
  | leaf h _ _ => h
  | node h _ _ => h

def edge : CodeTree → List Bool
  | leaf _ e _ => e
  | node _ e _ => e

/-- The handles of all nodes. -/
def handles : CodeTree → List Nat
  | leaf h _ _ => [h]
  | node h _ child => h :: ((child false).handles ++ (child true).handles)

/-- The bits on the way from the node to a leaf are `w`, and the leaf has symbol `x`. -/
def HasWord : CodeTree → List Bool → Nat → Prop
  | leaf _ e s, w, x => w = e ∧ x = s
  | node _ e child, w, x => ∃ b u, w = e ++ b :: u ∧ (child b).HasWord u x

/-- The nodes of an arena spell this tree. -/
inductive Stored (nodes : List TrieNode) : CodeTree → Prop
  | leaf {h : Nat} {e : List Bool} {skip : BitVec 4} {pre : BitVec 15} {sym : BitVec 9}
      (get : nodes[h]? = some (.leaf skip pre sym)) (edge : (TrieNode.leaf skip pre sym).edge = e) :
      Stored nodes (.leaf h e sym.toNat)
  | node {h : Nat} {e : List Bool} {child : Bool → CodeTree} {skip : BitVec 4} {pre : BitVec 15} {c₀ c₁ : BitVec 10}
      (get : nodes[h]? = some (.internal skip pre c₀ c₁)) (edge : (TrieNode.internal skip pre c₀ c₁).edge = e)
      (link : ∀ b, (child b).handle = if b then c₁.toNat else c₀.toNat) (sub : ∀ b, Stored nodes (child b)) :
      Stored nodes (.node h e child)

variable {T : CodeTree} {nodes nodes' : List TrieNode} {w : List Bool} {x : Nat}

theorem exists_word (T : CodeTree) : ∃ w x, T.HasWord w x := by
  induction T with
  | leaf h e s => exact ⟨e, s, rfl, rfl⟩
  | node h e child ih =>
    obtain ⟨u, x, hu⟩ := ih false
    exact ⟨_, x, false, u, rfl, hu⟩

theorem HasWord.edge_prefix (hw : T.HasWord w x) : T.edge <+: w := by
  cases T with
  | leaf h e s => exact hw.1 ▸ List.prefix_rfl
  | node h e child =>
    obtain ⟨b, u, rfl, -⟩ := hw
    exact List.prefix_append _ _

theorem hasWord_leaf_append {h s : Nat} {e : List Bool} : (leaf h e s).HasWord (e ++ w) x ↔ w = [] ∧ x = s := by
  simp [HasWord]

theorem hasWord_node_append {h : Nat} {e : List Bool} {child : Bool → CodeTree} :
    (node h e child).HasWord (e ++ w) x ↔ ∃ b u, w = b :: u ∧ (child b).HasWord u x := by
  simp [HasWord]

theorem hasWord_node_append_cons {h : Nat} {e : List Bool} {child : Bool → CodeTree} {b : Bool} :
    (node h e child).HasWord (e ++ b :: w) x ↔ (child b).HasWord w x := by
  simp only [HasWord, List.append_cancel_left_eq, List.cons.injEq]
  exact ⟨fun ⟨_, _, ⟨hb, hu⟩, hw⟩ => hb ▸ hu ▸ hw, fun hw => ⟨b, w, ⟨rfl, rfl⟩, hw⟩⟩

theorem handle_mem_handles (T : CodeTree) : T.handle ∈ T.handles := by
  cases T <;> simp [handle, handles]

theorem Stored.lt_length (hT : T.Stored nodes) {i : Nat} (hi : i ∈ T.handles) : i < nodes.length := by
  induction hT with
  | leaf get edge =>
    obtain rfl := List.mem_singleton.1 hi
    exact (List.getElem?_eq_some_iff.1 get).1
  | node get edge link sub ih =>
    rcases List.mem_cons.1 hi with rfl | hi
    · exact (List.getElem?_eq_some_iff.1 get).1
    · rcases List.mem_append.1 hi with hi | hi
      · exact ih _ hi
      · exact ih _ hi

/-- A tree stays in an arena in which its own nodes stay. -/
theorem Stored.congr (hT : T.Stored nodes) (h : ∀ i ∈ T.handles, nodes'[i]? = nodes[i]?) : T.Stored nodes' := by
  induction hT with
  | leaf get edge => exact .leaf ((h _ (by simp [handles])).trans get) edge
  | node get edge link sub ih =>
    refine .node ((h _ (by simp [handles])).trans get) edge link fun b => ih b fun i hi => h i ?_
    cases b <;> simp [handles, hi]

/-- Fuels above the length of every word last beyond the edge. -/
theorem exists_fuel {n k : Nat} (hn : ∀ w x, T.HasWord w x → w.length < n ∧ w.length < k) :
    ∃ n' k', n = n' + 1 ∧ k = T.edge.length + (k' + 1) := by
  obtain ⟨w, x, hw⟩ := exists_word T
  have hle := hw.edge_prefix.length_le
  have hlt := hn w x hw
  exact ⟨n - 1, k - T.edge.length - 1, by omega, by omega⟩

/-- 41 R160: a traversal from a node decodes as the loop does when the words of the node's tree are those ahead. -/
theorem Stored.traverse_eq_decodeLoop {σ : Type} (src : Source σ) {cs : List Code} {v l n k : Nat} (hT : T.Stored nodes)
    (h : Ahead cs v l T.HasWord) (hn : ∀ w x, T.HasWord w x → w.length < n ∧ w.length < k) (s : σ) :
    traverse src nodes n T.handle s = decodeLoop src k cs v l s := by
  induction hT generalizing cs v l n k s with
  | @leaf i e skip pre sym get edge =>
    obtain ⟨n, k, rfl, rfl⟩ := exists_fuel hn
    obtain ⟨cs', v', hahead, hloop⟩ := h.decodeLoop_edge (j := 0) edge (fun w x hw => hw.edge_prefix) (exists_word _)
    have hskip : skip.toNat = e.length := by rw [← edge, TrieNode.length_edge]; rfl
    rw [handle, traverse_leaf src get, hskip, CodeTree.edge, hloop]
    refine congrArg (Rd.bind _) (funext₂ fun _ t => ?_)
    exact (hahead.decodeLoop_of_word src k t fun w x => hasWord_leaf_append).symm
  | @node i e child skip pre c₀ c₁ get edge link sub ih =>
    obtain ⟨n, k, rfl, rfl⟩ := exists_fuel hn
    obtain ⟨cs', v', hahead, hloop⟩ := h.decodeLoop_edge (j := 0) edge (fun w x hw => hw.edge_prefix) (exists_word _)
    have hskip : skip.toNat = e.length := by rw [← edge, TrieNode.length_edge]; rfl
    have hsome : ∃ w x, (CodeTree.node i e child).HasWord (e ++ w) x := by
      obtain ⟨w, x, hw⟩ := exists_word (child false)
      exact ⟨false :: w, x, hasWord_node_append_cons.2 hw⟩
    rw [handle, traverse_internal src get, hskip, CodeTree.edge, hloop]
    refine congrArg (Rd.bind _) (funext₂ fun _ t => ?_)
    rw [hahead.decodeLoop_of_longer src k t hsome fun x hx => by simpa using hasWord_node_append.1 hx]
    rcases readBits_one_msb_cases src t with ⟨-, hr⟩ | ⟨b, u, -, hr⟩
    · simp [hr]
    · have hchild : (if b.toNat = 0 then c₀.toNat else c₁.toNat) = (child b).handle := by
        cases b <;> simp [link]
      have hnext := hahead.next b
      simp only [hasWord_node_append_cons] at hnext
      rw [hr, Rd.bind_ok, Rd.bind_ok, hchild]
      refine ih b hnext (fun w x hw => ?_) u
      have hlt := hn _ x (hasWord_node_append_cons.2 hw)
      rw [List.length_append, List.length_cons, CodeTree.edge] at hlt
      omega

end CodeTree

end Sys2Proof.Machine
end

section
/-! PROOFS. Insertion into the trie (41 R157): the comparison of an edge with the key, the split, and the walk down to it. -/

namespace Sys2Proof.Machine

variable {c len pos : Nat} {nd : TrieNode}

/-- The comparison ends with the edge, or at the first bit where edge and key differ; the key does not end inside the edge. -/
theorem edgeMatch_cases {e key : List Bool} {m : Nat} (he : nd.edge.drop m = e) (hkey : (msbBits len c).drop (pos + m) = key)
    (hlong : ¬ key <+: e) :
    ∃ p, edgeMatch nd c len pos e.length m = m + p.length ∧
      ((e = p ∧ p <+: key) ∨ ∃ b e' key', e = p ++ b :: e' ∧ key = p ++ (!b) :: key') := by
  induction e generalizing m key with
  | nil => exact ⟨[], rfl, .inl ⟨rfl, List.nil_prefix⟩⟩
  | cons b e ih =>
    obtain ⟨hpre, he'⟩ := testBit_of_drop_msbBits he
    rcases key with _ | ⟨a, key⟩
    · exact absurd List.nil_prefix hlong
    obtain ⟨hbit, hkey'⟩ := testBit_of_drop_msbBits hkey
    rw [List.length_cons, edgeMatch, TrieNode.preBit, keyBit, hpre, hbit]
    by_cases hab : b = a
    · subst hab
      obtain ⟨p, hp, hcases⟩ := ih he' hkey' fun h => hlong (List.cons_prefix_cons.2 ⟨rfl, h⟩)
      refine ⟨b :: p, by rw [if_pos rfl, hp, List.length_cons]; omega, ?_⟩
      rcases hcases with ⟨rfl, hpk⟩ | ⟨b', e', key', rfl, rfl⟩
      · exact .inl ⟨rfl, List.cons_prefix_cons.2 ⟨rfl, hpk⟩⟩
      · exact .inr ⟨b', e', key', rfl, rfl⟩
    · exact ⟨[], if_neg hab, .inr ⟨b, e, key, rfl, by cases a <;> cases b <;> simp_all⟩⟩

/-- The last bits of a number are those of its low end. -/
theorem msbBits_length_of_suffix {n v : Nat} {e : List Bool} (h : e <:+ msbBits n v) : msbBits e.length v = e := by
  obtain ⟨q, hq⟩ := h
  have hn : n = q.length + e.length := by simpa using (congrArg List.length hq).symm
  rw [show e.length = n - q.length by omega, ← drop_msbBits, ← hq, List.drop_left]

/-- What the two edge fields of a node hold when numbers are written to them (41 R156). -/
theorem msbBits_ofNat {n : Nat} (hn : n ≤ 15) (v : Nat) :
    msbBits (BitVec.ofNat 4 n).toNat (BitVec.ofNat 15 v).toNat = msbBits n v := by
  rw [BitVec.toNat_ofNat, BitVec.toNat_ofNat, Nat.mod_eq_of_lt (by omega), msbBits_mod_two_pow hn]

theorem edge_leafOf {n : Nat} (hn : n ≤ 15) (c s : Nat) : (leafOf n c s).edge = msbBits n c :=
  (msbBits_ofNat hn _).trans (msbBits_mod_two_pow le_rfl c)

theorem TrieNode.edge_withEdge {n : Nat} (hn : n ≤ 15) (nd : TrieNode) (v : Nat) : (nd.withEdge n v).edge = msbBits n v := by
  cases nd <;> exact msbBits_ofNat hn v

theorem TrieNode.skip_le (nd : TrieNode) : nd.skip ≤ 15 := by
  cases nd with
  | leaf k _ _ => exact Nat.le_of_lt_succ k.isLt
  | internal k _ _ _ => exact Nat.le_of_lt_succ k.isLt

namespace CodeTree

variable {T : CodeTree} {nodes nodes' : List TrieNode} {p e key w : List Bool} {b : Bool} {h n s x : Nat}

/-- The tree with its root at another handle and behind another edge. -/
def reroot (h : Nat) (e : List Bool) : CodeTree → CodeTree
  | leaf _ _ s => leaf h e s
  | node _ _ child => node h e child

@[simp] theorem handle_reroot : (T.reroot h e).handle = h := by cases T <;> rfl

/-- The tree split inside its edge after the bits `p`: the old content from bit `b` on, a new leaf on the other bit. -/
def split (T : CodeTree) (n : Nat) (p : List Bool) (b : Bool) (e key : List Bool) (s : Nat) : CodeTree :=
  node T.handle p fun a => if a = b then T.reroot n e else leaf (n + 1) key s

theorem hasWord_reroot {q : List Bool} (he : T.edge = q ++ e) : (T.reroot h e).HasWord w x ↔ T.HasWord (q ++ w) x := by
  cases T with
  | leaf i e' s => obtain rfl : e' = q ++ e := he; simp [reroot, HasWord]
  | node i e' child => obtain rfl : e' = q ++ e := he; simp [reroot, HasWord]

theorem hasWord_split (he : T.edge = p ++ b :: e) :
    (T.split n p b e key s).HasWord w x ↔ T.HasWord w x ∨ (w = p ++ (!b) :: key ∧ x = s) := by
  have hold : ∀ u, (T.reroot n e).HasWord u x ↔ T.HasWord (p ++ b :: u) x := fun u => by
    rw [hasWord_reroot (q := p ++ [b]) (by simpa using he)]; simp
  constructor
  · rintro ⟨a, u, rfl, hu⟩
    by_cases hab : a = b
    · subst hab
      exact .inl ((hold u).1 (by simpa using hu))
    · obtain ⟨rfl, rfl⟩ : u = key ∧ x = s := by simpa [hab, HasWord] using hu
      exact .inr ⟨by rw [Bool.eq_not_of_ne hab], rfl⟩
  · rintro (hw | ⟨rfl, rfl⟩)
    · obtain ⟨u, rfl⟩ := hw.edge_prefix
      rw [he, List.append_assoc, List.cons_append] at hw ⊢
      exact ⟨b, e ++ u, rfl, by simpa using (hold _).2 hw⟩
    · exact ⟨!b, key, rfl, by simp [HasWord]⟩

theorem handles_eq_cons (T : CodeTree) : T.handles = T.handle :: T.handles.tail := by cases T <;> rfl

theorem handles_reroot : (T.reroot h e).handles = h :: T.handles.tail := by cases T <;> rfl

theorem handles_split_perm : (T.split n p b e key s).handles.Perm (n :: (n + 1) :: T.handles) := by
  refine List.perm_iff_count.2 fun i => ?_
  rw [T.handles_eq_cons]
  cases b <;> simp [split, handles, handles_reroot, List.count_cons] <;> omega

/-- What one insertion into an arena does to a tree in it: one word more, two nodes more, and nothing outside the tree. -/
structure Grown (nodes nodes' : List TrieNode) (T T' : CodeTree) (key : List Bool) (s : Nat) : Prop where
  stored : T'.Stored nodes'
  handle_eq : T'.handle = T.handle
  handles_perm : T'.handles.Perm (nodes.length :: (nodes.length + 1) :: T.handles)
  word_iff : ∀ w x, T'.HasWord w x ↔ T.HasWord w x ∨ (w = key ∧ x = s)
  length_eq : nodes'.length = nodes.length + 2
  frame : ∀ i < nodes.length, i ∉ T.handles → nodes'[i]? = nodes[i]?

/-- The tree of a node moves with the node's content. -/
theorem Stored.reroot {nd : TrieNode} {k v : Nat} (hT : T.Stored nodes) (hnd : T.handles.Nodup)
    (hget : nodes[T.handle]? = some nd) (hmoved : nodes'[h]? = some (nd.withEdge k v)) (hedge : (nd.withEdge k v).edge = e)
    (hrest : ∀ i ∈ T.handles, i ≠ T.handle → nodes'[i]? = nodes[i]?) : (T.reroot h e).Stored nodes' := by
  cases hT with
  | leaf get edge =>
    obtain rfl := Option.some.inj (get.symm.trans hget)
    exact .leaf hmoved hedge
  | @node i _ child _ _ _ _ get edge link sub =>
    obtain rfl := Option.some.inj (get.symm.trans hget)
    refine .node hmoved hedge link fun b => (sub b).congr fun j hj => ?_
    have hmem : j ∈ (child false).handles ++ (child true).handles := by cases b <;> simp [hj]
    refine hrest j (List.mem_cons_of_mem _ hmem) ?_
    rintro rfl
    exact (List.nodup_cons.1 hnd).1 hmem

/-- A split tree in the arena that a split makes of its nodes. -/
theorem Stored.grown_split {nd : TrieNode} {k v : Nat} {k₁ k₂ : BitVec 4} {q₁ q₂ : BitVec 15} {sym : BitVec 9}
    {c₀ c₁ : BitVec 10} (hT : T.Stored nodes) (hnd : T.handles.Nodup) (hget : nodes[T.handle]? = some nd)
    (hedge : T.edge = p ++ b :: e) (hold : (nd.withEdge k v).edge = e) (hnew : (TrieNode.leaf k₁ q₁ sym).edge = key)
    (hparent : (TrieNode.internal k₂ q₂ c₀ c₁).edge = p)
    (hlink : ∀ a, (if a then c₁.toNat else c₀.toNat) = if a = b then nodes.length else nodes.length + 1) :
    Grown nodes ((nodes ++ [nd.withEdge k v, .leaf k₁ q₁ sym]).set T.handle (.internal k₂ q₂ c₀ c₁)) T
      (T.split nodes.length p b e key sym.toNat) (p ++ (!b) :: key) sym.toNat where
  stored := by
    have hh := (List.getElem?_eq_some_iff.1 hget).1
    refine .node (List.getElem?_set_self (by simp; omega)) hparent (fun a => ?_) fun a => ?_
    · rw [hlink]
      split
      · exact handle_reroot
      · rfl
    · split
      · refine hT.reroot hnd hget ?_ hold fun i hi hne => ?_
        · rw [List.getElem?_set_ne (by omega), List.getElem?_append_right le_rfl, Nat.sub_self]; rfl
        · rw [List.getElem?_set_ne hne.symm, List.getElem?_append_left (hT.lt_length hi)]
      · refine .leaf ?_ hnew
        rw [List.getElem?_set_ne (by omega), List.getElem?_append_right (by omega), Nat.add_sub_cancel_left]; rfl
  handle_eq := rfl
  handles_perm := handles_split_perm
  word_iff w x := hasWord_split hedge
  length_eq := by simp
  frame i hi hmem := by
    have hne : T.handle ≠ i := fun h => hmem (h ▸ T.handle_mem_handles)
    rw [List.getElem?_set_ne hne, List.getElem?_append_left hi]

end CodeTree

/-- 41 R157: the nodes of a split, where the edge is `p ++ b :: e` and the key goes on with `p ++ !b :: key`. -/
theorem splitNode_eq {nodes : List TrieNode} {h s : Nat} {p e key : List Bool} {b : Bool} (hedge : nd.edge = p ++ b :: e)
    (hkey : (msbBits len c).drop pos = p ++ (!b) :: key) :
    splitNode nodes h nd c len s pos p.length =
      (nodes ++ [nd.withEdge e.length (nd.pre % 2 ^ e.length), leafOf key.length c s]).set h
        (.internal (BitVec.ofNat 4 p.length) (BitVec.ofNat 15 (nd.pre >>> (e.length + 1)))
          (BitVec.ofNat 10 (if b then nodes.length + 1 else nodes.length))
          (BitVec.ofNat 10 (if b then nodes.length else nodes.length + 1))) := by
  have hskip : nd.skip = p.length + (e.length + 1) := by simpa using congrArg List.length hedge
  have hlen : len - pos = p.length + (key.length + 1) := by simpa using congrArg List.length hkey
  have hbit : nd.preBit p.length = b := 
    (testBit_of_drop_msbBits (show nd.edge.drop p.length = b :: e by simp [hedge])).1
  rw [splitNode, hbit, show nd.skip - p.length - 1 = e.length by omega, show nd.skip - p.length = e.length + 1 by omega,
    show len - (pos + p.length + 1) = key.length by omega]
  cases b <;> rfl

namespace CodeTree

/-- 41 R157, the split. -/
theorem Stored.grown_splitNode {T : CodeTree} {nodes : List TrieNode} {s : Nat} {p e key : List Bool} {b : Bool}
    (hT : T.Stored nodes) (hnd : T.handles.Nodup) (hget : nodes[T.handle]? = some nd) (hTe : T.edge = nd.edge)
    (hedge : nd.edge = p ++ b :: e) (hkey : (msbBits len c).drop pos = p ++ (!b) :: key) (hlen : len ≤ 15) (hs : s < 512)
    (hcap : nodes.length + 2 ≤ 1024) :
    Grown nodes (splitNode nodes T.handle nd c len s pos p.length) T (T.split nodes.length p b e key s)
      (p ++ (!b) :: key) s := by
  have hskip : nd.skip = p.length + (e.length + 1) := by simpa using congrArg List.length hedge
  have hskip_le := nd.skip_le
  have hkeylen : len - pos = p.length + (key.length + 1) := by simpa using congrArg List.length hkey
  have hsym : (BitVec.ofNat 9 s).toNat = s := BitVec.toNat_ofNat s 9 |>.trans (Nat.mod_eq_of_lt hs)
  have htake : nd.edge.take p.length = p := by rw [hedge, List.take_left]
  rw [TrieNode.edge, take_msbBits (by omega), show nd.skip - p.length = e.length + 1 by omega] at htake
  have hold : msbBits e.length nd.pre = e :=
    msbBits_length_of_suffix (n := nd.skip) ⟨p ++ [b], (List.append_assoc p [b] e).trans hedge.symm⟩
  have hleaf : msbBits key.length c = key :=
    msbBits_length_of_suffix ((List.IsSuffix.trans ⟨p ++ [!b], by simp [hkey]⟩ (List.drop_suffix pos (msbBits len c))))
  rw [splitNode_eq hedge hkey]
  have hgrown := hT.grown_split (k := e.length) (v := nd.pre % 2 ^ e.length) (sym := BitVec.ofNat 9 s) hnd hget
    (hTe.trans hedge)
    (by rw [TrieNode.edge_withEdge (by omega), msbBits_mod_two_pow le_rfl, hold])
    ((edge_leafOf (by omega) c s).trans hleaf) ((msbBits_ofNat (by omega) _).trans htake)
    (c₀ := BitVec.ofNat 10 (if b then nodes.length + 1 else nodes.length))
    (c₁ := BitVec.ofNat 10 (if b then nodes.length else nodes.length + 1))
    fun a => by
      have hmod : ∀ i ≤ nodes.length + 1, i % 1024 = i := fun i hi => Nat.mod_eq_of_lt (by omega)
      cases a <;> cases b <;> simp [hmod]
  rwa [hsym] at hgrown

theorem mem_handles_of_child {i j : Nat} {e : List Bool} {child : Bool → CodeTree} {b : Bool} (hj : j ∈ (child b).handles) :
    j ∈ (node i e child).handles := by
  cases b <;> simp [handles, hj]

/-- The handles of a tree are its root's and, apart from one another, those of its two children. -/
theorem nodup_handles_node {i : Nat} {e : List Bool} {child : Bool → CodeTree} (h : (node i e child).handles.Nodup) (b : Bool) :
    i ∉ (child b).handles ∧ (child b).handles.Nodup ∧ ∀ j ∈ (child (!b)).handles, j ∉ (child b).handles := by
  simp only [handles, List.nodup_cons, List.mem_append, not_or, List.nodup_append'] at h
  obtain ⟨⟨h₀, h₁⟩, hnd₀, hnd₁, hdisj⟩ := h
  cases b
  · exact ⟨h₀, hnd₀, fun j hj hj' => hdisj hj' hj⟩
  · exact ⟨h₁, hnd₁, fun j hj hj' => hdisj hj hj'⟩

theorem hasWord_update {i x : Nat} {e w : List Bool} {child : Bool → CodeTree} {b : Bool} {T' : CodeTree} :
    (node i e (Function.update child b T')).HasWord w x ↔
      (∃ u, w = e ++ b :: u ∧ T'.HasWord u x) ∨ ∃ u, w = e ++ (!b) :: u ∧ (child (!b)).HasWord u x := by
  cases b <;> simp [HasWord, Function.update, or_comm]

/-- A tree with one child grown has grown, by the word through that child. -/
theorem Grown.node {i s : Nat} {child : Bool → CodeTree} {T' : CodeTree} {nodes nodes' : List TrieNode} {e u : List Bool}
    {b : Bool} (hT : (node i e child).Stored nodes) (hnd : (node i e child).handles.Nodup)
    (hg : Grown nodes nodes' (child b) T' u s) :
    Grown nodes nodes' (node i e child) (node i e (Function.update child b T')) (e ++ b :: u) s where
  stored := by
    obtain ⟨hroot, -, hother⟩ := nodup_handles_node hnd b
    cases hT with
    | node get edge link sub =>
      refine .node ((hg.frame i (List.getElem?_eq_some_iff.1 get).1 hroot).trans get) edge (fun a => ?_) fun a => ?_
      · obtain rfl | rfl := Bool.eq_or_eq_not a b
        · rw [Function.update_self, hg.handle_eq, link]
        · rw [Function.update_of_ne (Bool.not_ne_self b), link]
      · obtain rfl | rfl := Bool.eq_or_eq_not a b
        · rw [Function.update_self]
          exact hg.stored
        · rw [Function.update_of_ne (Bool.not_ne_self b)]
          exact (sub _).congr fun j hj => hg.frame j ((sub _).lt_length hj) (hother j hj)
  handle_eq := rfl
  handles_perm := by
    refine List.perm_iff_count.2 fun j => ?_
    have := hg.handles_perm.count_eq j
    cases b <;> simp [handles, List.count_cons] at this ⊢ <;> omega
  word_iff w x := by
    have hself : (CodeTree.node i e child) = CodeTree.node i e (Function.update child b (child b)) := by
      rw [Function.update_eq_self]
    rw [hself, hasWord_update, hasWord_update]
    simp only [hg.word_iff]
    constructor
    · rintro (⟨u', rfl, hu | ⟨rfl, rfl⟩⟩ | hother)
      · exact .inl (.inl ⟨u', rfl, hu⟩)
      · exact .inr ⟨rfl, rfl⟩
      · exact .inl (.inr hother)
    · rintro ((⟨u', rfl, hu⟩ | hother) | ⟨rfl, rfl⟩)
      · exact .inl ⟨u', rfl, .inl hu⟩
      · exact .inr hother
      · exact .inl ⟨u, rfl, .inr ⟨rfl, rfl⟩⟩
  length_eq := hg.length_eq
  frame j hj hmem := hg.frame j hj fun h => hmem (mem_handles_of_child h)

end CodeTree

variable {nodes : List TrieNode} {h m n s : Nat}

theorem insertFrom_of_mismatch (hget : nodes[h]? = some nd) (hm : edgeMatch nd c len pos nd.skip 0 = m) (hlt : m < nd.skip) :
    insertFrom c len s (n + 1) nodes h pos = splitNode nodes h nd c len s pos m := by
  simp [insertFrom, hget, hm, hlt]

theorem insertFrom_of_match {skip : BitVec 4} {pre : BitVec 15} {c₀ c₁ : BitVec 10}
    (hget : nodes[h]? = some (.internal skip pre c₀ c₁))
    (hm : edgeMatch (.internal skip pre c₀ c₁) c len pos skip.toNat 0 = skip.toNat) :
    insertFrom c len s (n + 1) nodes h pos = insertFrom c len s n nodes
      (if keyBit c len (pos + skip.toNat) then c₁.toNat else c₀.toNat) (pos + skip.toNat + 1) := by
  rw [insertFrom, hget]
  exact if_neg hm.not_lt

namespace CodeTree

/-- The first node of a walk: the walk ends in a split there, or the key goes on beyond the node's edge. -/
theorem Stored.exists_grown_or_match {T : CodeTree} {key : List Bool} (hT : T.Stored nodes) (hnd : T.handles.Nodup)
    (hget : nodes[T.handle]? = some nd) (hTe : nd.edge = T.edge) (hkey : (msbBits len c).drop pos = key)
    (hfree : ∀ w x, T.HasWord w x → ¬ key <+: w) (hlen : len ≤ 15) (hs : s < 512) (hcap : nodes.length + 2 ≤ 1024) :
    (∃ T', Grown nodes (insertFrom c len s (n + 1) nodes T.handle pos) T T' key s) ∨
      (T.edge <+: key ∧ edgeMatch nd c len pos nd.skip 0 = nd.skip) := by
  have hlong : ¬ key <+: nd.edge := fun hpre =>
    let ⟨w, x, hw⟩ := exists_word T
    hfree w x hw (hpre.trans (hTe ▸ hw.edge_prefix))
  obtain ⟨p, hm, hcases⟩ := edgeMatch_cases (e := nd.edge) (m := 0) rfl hkey hlong
  rw [nd.length_edge, Nat.zero_add] at hm
  rcases hcases with ⟨hp, hpre⟩ | ⟨b, e, key', hedge, rfl⟩
  · exact .inr ⟨hTe ▸ hp ▸ hpre, by rw [hm, ← hp, nd.length_edge]⟩
  · have hlt : p.length < nd.skip := by rw [← nd.length_edge, hedge]; simp
    rw [insertFrom_of_mismatch hget hm hlt]
    exact .inl ⟨_, hT.grown_splitNode hnd hget hTe.symm hedge hkey hlen hs hcap⟩

/-- 41 R157: inserting a key with which no word of a stored tree begins, and that begins with none, adds it to the words. -/
theorem Stored.exists_grown {T : CodeTree} {key : List Bool} (hT : T.Stored nodes)
    (hnd : T.handles.Nodup) (hkey : (msbBits len c).drop pos = key) (hn : key.length < n)
    (hfree : ∀ w x, T.HasWord w x → ¬ w <+: key ∧ ¬ key <+: w) (hlen : len ≤ 15) (hs : s < 512)
    (hcap : nodes.length + 2 ≤ 1024) :
    ∃ T', Grown nodes (insertFrom c len s n nodes T.handle pos) T T' key s := by
  induction hT generalizing key n pos with
  | @leaf i e skip pre sym get edge =>
    obtain ⟨n, rfl⟩ := Nat.exists_eq_succ_of_ne_zero (Nat.ne_zero_of_lt hn)
    rcases (Stored.leaf get edge).exists_grown_or_match hnd get edge hkey (fun w x hw => (hfree w x hw).2) hlen hs hcap
      with hgrown | ⟨hpre, -⟩
    · exact hgrown
    · exact absurd hpre (hfree e _ ⟨rfl, rfl⟩).1
  | @node i e child skip pre c₀ c₁ get edge link sub ih =>
    obtain ⟨n, rfl⟩ := Nat.exists_eq_succ_of_ne_zero (Nat.ne_zero_of_lt hn)
    have hT := Stored.node get edge link sub
    rcases hT.exists_grown_or_match hnd get edge hkey (fun w x hw => (hfree w x hw).2) hlen hs hcap
      with hgrown | ⟨⟨rest, hpre⟩, hmatch⟩
    · exact hgrown
    obtain rfl : e ++ rest = key := hpre
    rcases rest with _ | ⟨b, u⟩
    · obtain ⟨w, x, hw⟩ := exists_word (CodeTree.node i e child)
      exact absurd (by simpa [CodeTree.edge] using hw.edge_prefix) (hfree w x hw).2
    have hskip : skip.toNat = e.length := by rw [← edge, TrieNode.length_edge]; rfl
    have hrest : (msbBits len c).drop (pos + skip.toNat) = b :: u := by
      rw [← List.drop_drop, hkey, hskip]
      exact List.drop_left
    obtain ⟨hbit, hu⟩ := testBit_of_drop_msbBits hrest
    obtain ⟨-, hndb, -⟩ := nodup_handles_node hnd b
    obtain ⟨T', hg⟩ := ih b hndb hu (n := n) (by simp at hn; omega) fun w x hw => by
      simpa using hfree _ x (hasWord_node_append_cons.2 hw)
    rw [handle, insertFrom_of_match get hmatch, keyBit, hbit, ← link]
    exact ⟨_, hg.node hT hnd⟩

end CodeTree

end Sys2Proof.Machine
end

section
/-! PROOFS. `Build` (41 R150, R157, R158): the trie of codes none of which begins with another spells
these codes. -/

namespace Sys2Proof.Machine

open CodeTree

/-- The arena holds a tree, all of its nodes and no other, whose words are the codes; with `k` codes there are `2 k - 1` nodes. -/
structure Trie.HoldsTree (t : Trie) (cs : List Code) (T : CodeTree) : Prop where
  root_eq : t.root.map BitVec.toNat = some T.handle
  stored : T.Stored t.nodes
  handles_perm : T.handles.Perm (List.range t.used)
  word_iff : ∀ w x, T.HasWord w x ↔ ∃ c ∈ cs, c.sym = x ∧ c.bits = w
  used_add_one : t.used + 1 = 2 * cs.length

/-- The trie of a list of codes: the empty trie of no code, or a tree of them. -/
def Trie.Spells (t : Trie) (cs : List Code) : Prop := (cs = [] ∧ t = Trie.empty) ∨ ∃ T, t.HoldsTree cs T

/-- Neither code begins with the bits of the other. -/
def Code.Apart (c d : Code) : Prop := ¬ c.bits <+: d.bits ∧ ¬ d.bits <+: c.bits

variable {t : Trie} {cs : List Code} {k : Code}

theorem Trie.holdsTree_insert_empty (hlen : k.len ≤ 15) (hs : k.sym < 512) :
    (Trie.empty.insert k).HoldsTree [k] (.leaf 0 k.bits k.sym) where
  root_eq := rfl
  stored := by
    have hsym : (BitVec.ofNat 9 k.sym).toNat = k.sym := (BitVec.toNat_ofNat k.sym 9).trans (Nat.mod_eq_of_lt hs)
    have h := Stored.leaf (nodes := (Trie.empty.insert k).nodes) (h := 0) rfl (edge_leafOf hlen k.code k.sym)
    rwa [hsym] at h
  handles_perm := .refl _
  word_iff w x := by simp [HasWord, eq_comm, and_comm]
  used_add_one := rfl

theorem Trie.HoldsTree.insert {T : CodeTree} (h : t.HoldsTree cs T) (hlen : k.len ≤ 15) (hs : k.sym < 512)
    (hapart : ∀ c ∈ cs, c.Apart k) (hcap : cs.length < 512) : ∃ T', (t.insert k).HoldsTree (cs ++ [k]) T' := by
  obtain ⟨r, hr, hroot⟩ := Option.map_eq_some_iff.1 h.root_eq
  have hused : t.nodes.length + 1 = 2 * cs.length := h.used_add_one
  have hfree : ∀ w x, T.HasWord w x → ¬ w <+: k.bits ∧ ¬ k.bits <+: w := fun w x hw => by
    obtain ⟨c, hc, -, rfl⟩ := (h.word_iff w x).1 hw
    exact hapart c hc
  obtain ⟨T', hg⟩ := h.stored.exists_grown (key := k.bits) (pos := 0) (n := k.len + 1)
    (h.handles_perm.nodup_iff.2 List.nodup_range) rfl (by simp [Code.bits_eq]) hfree hlen hs (by omega)
  have hinsert : t.insert k = { t with nodes := insertFrom k.code k.len k.sym (k.len + 1) t.nodes T.handle 0 } := by
    rw [Trie.insert, hr, ← hroot]
  refine ⟨T', hinsert ▸ ?_⟩
  exact {
    root_eq := h.root_eq.trans (congrArg some hg.handle_eq.symm)
    stored := hg.stored
    handles_perm := by
      have hperm := hg.handles_perm.trans ((h.handles_perm.cons _).cons _)
      rw [Trie.used, hg.length_eq, List.range_succ, List.range_succ, List.append_assoc]
      exact hperm.trans (List.perm_append_comm (l₁ := [_, _]))
    word_iff := fun w x => by
      rw [hg.word_iff, h.word_iff]
      simp [or_and_right, exists_or, eq_comm, and_comm]
    used_add_one := by
      rw [Trie.used, hg.length_eq, List.length_append, List.length_singleton]
      omega }

/-- Inserting codes one by one, each apart from all others, gives a trie that spells them. -/
theorem Trie.spells_foldl_insert (hfit : ∀ c ∈ cs, c.len ≤ 15 ∧ c.sym < 512) (hapart : cs.Pairwise Code.Apart)
    (hcap : cs.length ≤ 512) : (cs.foldl Trie.insert Trie.empty).Spells cs := by
  induction cs using List.reverseRecOn with
  | nil => exact .inl ⟨rfl, rfl⟩
  | append_singleton cs k ih =>
    obtain ⟨hapart, -, hk⟩ := List.pairwise_append.1 hapart
    obtain ⟨hlen, hs⟩ := hfit k (by simp)
    rw [List.length_append, List.length_singleton] at hcap
    rw [List.foldl_append]
    rcases ih (fun c hc => hfit c (by simp [hc])) hapart (by omega) with ⟨rfl, ht⟩ | ⟨T, hT⟩
    · exact .inr ⟨_, Trie.holdsTree_insert_empty hlen hs⟩
    · exact .inr (hT.insert hlen hs (fun c hc => hk c hc k (by simp)) (by omega))

/-- 41 R150, R157: what `Build` makes of an accepted table spells the codes of the table. -/
theorem spells_of_buildTrie {L : List Nat} {m : Nat} (hm : m ≤ 15) (hn : L.length ≤ 288) (hL : LengthsFit L m)
    (h : buildTrie L m = some t) : overSubscribed L m = false ∧ t.Spells (codes L m) := by
  have ho : overSubscribed L m = false := by
    by_contra ho
    simp [buildTrie, ho] at h
  obtain rfl : (codes L m).foldl Trie.insert Trie.empty = t := by simpa [buildTrie, ho] using h
  refine ⟨ho, Trie.spells_foldl_insert (fun c hc => ?_) ?_ ((length_codes_le L m).trans (by omega))⟩
  · obtain ⟨-, hle⟩ := len_of_mem_codes hL hc
    have hsym := sym_lt_length_of_mem_codes hL hc
    omega
  · refine (pairwise_sym_codes L m).imp_of_mem fun hc hd hlt => ⟨fun hpre => ?_, fun hpre => ?_⟩
    · exact hlt.ne (congrArg Code.sym (eq_of_bits_prefix hL ho hc hd hpre))
    · exact hlt.ne' (congrArg Code.sym (eq_of_bits_prefix hL ho hd hc hpre))

/-- 41 R160: a trie that spells some codes decodes as the loop over these codes does. -/
theorem Trie.Spells.decode_eq_decodeLoop {σ : Type} (src : Source σ) {m : Nat} (h : t.Spells cs)
    (hfit : ∀ c ∈ cs, 1 ≤ c.len ∧ c.code < 2 ^ c.len) (hlen : ∀ c ∈ cs, c.len ≤ m) (hm : m ≤ 15) (s : σ) :
    t.decode src s = decodeLoop src (m + 2) cs 0 0 s := by
  rcases h with ⟨rfl, rfl⟩ | ⟨T, hT⟩
  · rfl
  · obtain ⟨r, hr, hroot⟩ := Option.map_eq_some_iff.1 hT.root_eq
    have hahead : Ahead cs 0 0 T.HasWord := ⟨hfit, by simp, hT.word_iff⟩
    rw [Trie.decode, hr, ← hT.stored.traverse_eq_decodeLoop src (n := Config.MAXBITS + 1) hahead fun w x hw => ?_, ← hroot]
    obtain ⟨c, hc, -, rfl⟩ := (hT.word_iff w x).1 hw
    have := hlen c hc
    rw [Code.bits_eq, length_msbBits, Config.MAXBITS]
    omega

end Sys2Proof.Machine
end

section
/-! PROOFS. The statement of 41_huffman_table_builder on the decode trie. -/

namespace Sys2Proof.Machine

/-- Settles O9: the trie's words are the codes, each `INTERNAL` node has words both ways, so the traversal and the loop over the
codes go on, answer and stop together. -/
theorem trieDecodesLikeTheCodes : Obligations.TrieDecodesLikeTheCodes := by
  intro σ src L m t s hm hn hL hbuild
  obtain ⟨ho, hspells⟩ := spells_of_buildTrie hm hn hL hbuild
  refine hspells.decode_eq_decodeLoop src (fun c hc => ?_) (fun c hc => ?_) hm s
  · exact ⟨(len_of_mem_codes hL hc).1, code_lt_two_pow_of_mem_codes hL ho hc⟩
  · exact (len_of_mem_codes hL hc).2

end Sys2Proof.Machine
end

section
/-! PROOFS. The statements of 42_block_decoder on literals and end of block. -/

namespace Sys2Proof.Machine

/-- 42 R202: the first 256 literal/length symbols are the literals, each the one operation at its own byte. -/
theorem exec_of_head_literal {i : Instr} {b e : Nat} (h : i.head = .ll b e) (hb : b ≤ 255) (s : State) :
    exec i s = literal (BitVec.ofNat 8 b) s := by
  cases i
  -- Only literal/length symbols have such a head, and only literals are at most 255.
  all_goals cases h
  any_goals omega
  all_goals rfl

/-- 42 R203: `BFINAL` alone says what follows the block. -/
theorem exec_eob (s : State) : exec .eob s = .next { s with fsm := if s.bfinal = 1 then .done else .header } := rfl

/-- Settles O33: a literal has the two answers of `literal_cases`, and a write changes the byte at its own address alone. -/
theorem literalIsAppended : Obligations.LiteralIsAppended := by
  intro i b e hi hb s
  rw [exec_of_head_literal hi hb]
  rcases literal_cases (BitVec.ofNat 8 b) s with ⟨hfull, hraise⟩ | ⟨hroom, happend⟩
  · exact ⟨fun _ => hraise, fun hroom => absurd hfull hroom.not_ge⟩
  · refine ⟨fun hfull => absurd hfull hroom.not_ge, fun _ => ⟨_, happend, ?_, fun a ha => ?_⟩⟩
    · rw [Memory.read_write, if_pos rfl]
    · rw [Memory.read_write, if_neg ha]

/-- Settles O34. -/
theorem endOfBlockChoosesTheNextState : Obligations.EndOfBlockChoosesTheNextState := by
  intro s
  rw [exec_eob]
  exact ⟨fun hlast => by rw [if_pos hlast], fun hmore => by rw [if_neg hmore]⟩

end Sys2Proof.Machine
end

section
/-! PROOFS. Runs of code lengths (43_code_length_run_decoder R221): what storing one does to `lens`, and what each code-length
symbol stores. -/

namespace Sys2Proof.Machine

variable {s t : State} {i : Instr} {c e n : Nat} {val : BitVec 4}

theorem lenAt_of_lt {j : Nat} (s : State) (hj : j < Config.CAP_LENS) : s.lenAt j = s.lens[j] := by
  simp [State.lenAt, hj]

theorem lenAt_of_le {j : Nat} (s : State) (hj : Config.CAP_LENS ≤ j) : s.lenAt j = 0 := by
  simp [State.lenAt, hj]

/-- 43 R227: a run inside the table is stored, and `idx` does not wrap. -/
theorem exists_storeLengths_runStored (val : BitVec 4) (hin : s.idx.toNat + n ≤ Config.CAP_LENS) :
    ∃ t, storeLengths n val s = .next t ∧ RunStored n val s t := by
  rcases storeLengths_cases n val s with ⟨-, hnext⟩ | ⟨hout, -⟩
  · refine ⟨_, hnext, rfl, ?_, fun j => ?_⟩
    · simp only [BitVec.toNat_add, BitVec.toNat_ofNat]
      have hcap : Config.CAP_LENS = 320 := rfl
      omega
    · by_cases hj : j < Config.CAP_LENS
      · rw [lenAt_of_lt _ hj, lenAt_of_lt _ hj, getElem_fillVector]
      · rw [lenAt_of_le _ (by omega), lenAt_of_le _ (by omega), if_neg (by omega)]
  · omega

theorem RunStored.sameCursor (h : RunStored n val s t) : SameCursor s t := by
  obtain ⟨ht, -, -⟩ := h
  exact ⟨congrArg (·.cur.inPos.toNat) ht, congrArg (·.cur.bitbuf) ht, congrArg (·.cur.bitcnt) ht⟩

/-- 43 R226: a run that takes all the entries left ends the sequence. -/
theorem RunStored.ends (h : RunStored n val s t) (hn : s.idx.toNat + n = s.total.toNat) :
    t.fsm = .dynBuild ∧ t.idx = s.total := by
  obtain ⟨ht, hidx, -⟩ := h
  have hend : t.idx = s.total := BitVec.eq_of_toNat_eq (hidx.trans hn)
  exact ⟨(congrArg State.fsm ht).trans (if_pos hend), hend⟩

/-- 43 R221: the entries a code-length symbol writes, with its extra field. -/
def runLength (c e : Nat) : Nat := if c ≤ 15 then 1 else if c = 18 then 11 + e else 3 + e

/-- 43 R221: the length a code-length symbol writes. -/
def State.runValue (s : State) (c : Nat) : BitVec 4 :=
  if c ≤ 15 then BitVec.ofNat 4 c else if c = 16 then s.lenAt (s.idx.toNat - 1) else 0

/-- 43 R221: the code-length symbols are the lengths, which are one operation, and the three repeats. -/
theorem head_eq_cl_cases (h : i.head = .cl c e) :
    (c ≤ 15 ∧ ∀ s, exec i s = storeLengths 1 (BitVec.ofNat 4 c) s) ∨
    (∃ x, i = .clRepPrev x ∧ c = 16 ∧ e = x.toNat) ∨
    (∃ x, i = .clRepZ3 x ∧ c = 17 ∧ e = x.toNat) ∨
    (∃ x, i = .clRepZ11 x ∧ c = 18 ∧ e = x.toNat) := by
  cases i
  case clRepPrev x => cases h; exact .inr (.inl ⟨x, rfl, rfl, rfl⟩)
  case clRepZ3 x => cases h; exact .inr (.inr (.inl ⟨x, rfl, rfl, rfl⟩))
  case clRepZ11 x => cases h; exact .inr (.inr (.inr ⟨x, rfl, rfl, rfl⟩))
  -- Only the 16 lengths have such a head still.
  all_goals cases h
  all_goals exact .inl ⟨by decide, fun _ => rfl⟩

/-- 43 R223: with an entry before `idx`, it is repeated. -/
theorem exec_clRepPrev_of_idx_ne_zero (x : BitVec 2) (h0 : s.idx ≠ 0) :
    exec (.clRepPrev x) s = storeRun (3 + x.toNat) (s.lenAt (s.idx.toNat - 1)) s :=
  if_neg h0

theorem exec_clRepPrev_of_idx_eq_zero (x : BitVec 2) (h0 : s.idx = 0) :
    exec (.clRepPrev x) s = .next (s.raise .malformedCodeLengthRun) :=
  if_pos h0

theorem exec_clRepZ3 (x : BitVec 3) (s : State) :
    exec (.clRepZ3 x) s = storeRun (3 + x.toNat) 0 s := rfl

theorem exec_clRepZ11 (x : BitVec 7) (s : State) :
    exec (.clRepZ11 x) s = storeRun (11 + x.toNat) 0 s := rfl

theorem storeRun_of_overflow (val : BitVec 4) (hover : s.total.toNat - s.idx.toNat < n) :
    storeRun n val s = .next (s.raise .malformedCodeLengthRun) := by
  rcases storeRun_cases n val s with ⟨-, hraise⟩ | ⟨hfit, -⟩
  · exact hraise
  · exact absurd hover hfit.not_gt

theorem storeRun_of_fits (val : BitVec 4) (hfit : n ≤ s.total.toNat - s.idx.toNat) :
    storeRun n val s = storeLengths n val s := by
  rcases storeRun_cases n val s with ⟨hover, -⟩ | ⟨-, hstore⟩
  · exact absurd hover hfit.not_gt
  · exact hstore

/-- 43 R221: a code-length symbol whose run fits in the entries left stores it, but for a repeat with nothing to repeat. -/
theorem exec_eq_storeLengths (h : i.head = .cl c e) (h16 : c = 16 → s.idx ≠ 0)
    (hfit : runLength c e ≤ s.total.toNat - s.idx.toNat) :
    exec i s = storeLengths (runLength c e) (s.runValue c) s := by
  rcases head_eq_cl_cases h with ⟨hc, hexec⟩ | ⟨x, rfl, rfl, rfl⟩ | ⟨x, rfl, rfl, rfl⟩ | ⟨x, rfl, rfl, rfl⟩
  · rw [hexec, runLength, State.runValue, if_pos hc, if_pos hc]
  · exact (exec_clRepPrev_of_idx_ne_zero x (h16 rfl)).trans (storeRun_of_fits _ hfit)
  · exact (exec_clRepZ3 x s).trans (storeRun_of_fits _ hfit)
  · exact (exec_clRepZ11 x s).trans (storeRun_of_fits _ hfit)

theorem runLength_pos (c e : Nat) : 1 ≤ runLength c e := by
  unfold runLength
  split_ifs <;> omega

/-- 43 R221, R227: the run of a code-length symbol that fits in the entries left is inside the table. -/
theorem exists_exec_runStored (h : i.head = .cl c e) (h16 : c = 16 → s.idx ≠ 0)
    (hfit : runLength c e ≤ s.total.toNat - s.idx.toNat) (htotal : s.total.toNat ≤ Config.CAP_LENS) :
    ∃ t, exec i s = .next t ∧ RunStored (runLength c e) (s.runValue c) s t := by
  have hpos := runLength_pos c e
  rw [exec_eq_storeLengths h h16 hfit]
  exact exists_storeLengths_runStored _ (by omega)

end Sys2Proof.Machine
end

section
/-! PROOFS. The steps around a run of code lengths (42_block_decoder R180, R197; 43 R221, R223): reading symbol 16, and the
set-up that follows the last length. -/

namespace Sys2Proof.Machine

variable {s t u : State} {v : Nat}

theorem step_of_dynLengths (h : s.fsm = .dynLengths) : step s = runElement (codeLenCtx s) s := by
  rw [step, cycle, h]

theorem step_of_dynBuild (h : s.fsm = .dynBuild) : step s = buildBoth s := by
  rw [step, cycle, h]
  rfl

/-- Decoding a symbol leaves the index of the run alone. -/
theorem idx_of_decodeSymbol_eq_ok {L : List Nat} {m : Nat} (h : decodeSymbol stateSource L m s = .ok v t) :
    t.idx = s.idx := by
  have hframe := (stateSource_keeps s).decodeSymbol L m s (.refl s)
  rw [h] at hframe
  obtain ⟨_, _, _, _, _, _, rfl⟩ := hframe
  rfl

theorem fetch_codeLenCtx (s : State) :
    fetch (codeLenCtx s) s = decodeCodeLen stateSource s.clLengths (s.idx == 0) s := rfl

/-- 43 R223: with no length before it, symbol 16 is read without its extra bits. -/
theorem fetch_clRepPrev_of_idx_eq_zero (h0 : s.idx = 0) (hsym : decodeSymbol stateSource s.clLengths 7 s = .ok 16 t) :
    fetch (codeLenCtx s) s = .ok (.clRepPrev 0) t := by
  rw [fetch_codeLenCtx, decodeCodeLen, hsym, Rd.bind_ok, if_pos (by simp [h0])]
  rfl

/-- 43 R223: after a length, symbol 16 is read with its two extra bits. -/
theorem fetch_clRepPrev_of_idx_ne_zero (h0 : s.idx ≠ 0) (hsym : decodeSymbol stateSource s.clLengths 7 s = .ok 16 t)
    (hextra : readBits stateSource 2 .lsb t = .ok v u) :
    fetch (codeLenCtx s) s = .ok (.clRepPrev (BitVec.ofNat 2 v)) u := by
  have hbits : clExtraBits 16 = 2 := rfl
  rw [fetch_codeLenCtx, decodeCodeLen, hsym, Rd.bind_ok, if_neg (by simpa using h0), hbits, hextra]
  rfl

/-- 42 R197: setting up the tables of a dynamic block consumes no bit, whether `Build` accepts them or not. -/
theorem sameCursor_of_step_dynBuild (hfsm : s.fsm = .dynBuild) (hstep : step s = .next t) : SameCursor s t := by
  rw [step_of_dynBuild hfsm] at hstep
  rcases buildBoth_cases s with ⟨-, h⟩ | ⟨_, -, -, h⟩ | ⟨_, _, -, -, h⟩
  all_goals
    cases h.symm.trans hstep
    exact ⟨rfl, rfl, rfl⟩

end Sys2Proof.Machine
end

section
/-! PROOFS. The statements of 43_code_length_run_decoder. -/

namespace Sys2Proof.Machine

/-- Settles O29: one entry, and there is one left. -/
theorem codeLengthIsStored : Obligations.CodeLengthIsStored := by
  intro i c e hi hc
  refine ⟨?_, fun s hlt htotal => ⟨hlt, ?_⟩⟩
  · rw [clExtraBits, if_neg (by omega), if_neg (by omega), if_neg (by omega)]
  · have hlen : runLength c e = 1 := if_pos hc
    have hval : s.runValue c = BitVec.ofNat 4 c := if_pos hc
    rw [← hlen, ← hval]
    exact exists_exec_runStored hi (by omega) (by omega) htotal

/-- Settles O30: the run that fits is stored; with no length before it the symbol is read alone, and reading it leaves `idx` 0. -/
theorem repeatPreviousLength : Obligations.RepeatPreviousLength := by
  refine ⟨fun e s h0 hfit htotal => ⟨by omega, ?_⟩, fun e s h0 => exec_clRepPrev_of_idx_eq_zero e h0,
    fun s t hfsm h0 hsym => ?_, fun s t u v hfsm h0 hsym hextra => ?_⟩
  · exact exists_exec_runStored (i := .clRepPrev e) rfl (fun _ => h0) hfit htotal
  · rw [step_of_dynLengths hfsm, runElement, fetch_clRepPrev_of_idx_eq_zero h0 hsym]
    exact exec_clRepPrev_of_idx_eq_zero 0 ((idx_of_decodeSymbol_eq_ok hsym).trans h0)
  · rw [step_of_dynLengths hfsm, runElement, fetch_clRepPrev_of_idx_ne_zero h0 hsym hextra]

/-- Settles O31. -/
theorem repeatZeroLengths : Obligations.RepeatZeroLengths := by
  refine fun e g s htotal => ⟨by omega, by omega, fun hfit => ?_, fun hfit => ?_⟩
  · exact exists_exec_runStored (i := .clRepZ3 e) rfl nofun hfit htotal
  · exact exists_exec_runStored (i := .clRepZ11 g) rfl nofun hfit htotal

/-- Settles O32: a run past the end is refused by the one check of `storeRun`; one up to the end moves `idx` to `total`, and the
set-up that follows reads nothing. -/
theorem runOverflowFaults : Obligations.RunOverflowFaults := by
  refine fun s => ⟨fun e hover => ?_, fun e hover => ?_, fun e hover => ?_, fun i c e rep hi h0 htotal hrep hend => ?_⟩
  · by_cases h0 : s.idx = 0
    · exact exec_clRepPrev_of_idx_eq_zero e h0
    · rw [exec_clRepPrev_of_idx_ne_zero e h0, storeRun_of_overflow _ hover]
  · rw [exec_clRepZ3, storeRun_of_overflow _ hover]
  · rw [exec_clRepZ11, storeRun_of_overflow _ hover]
  · obtain rfl : rep = runLength c e := hrep
    have hpos := runLength_pos c e
    obtain ⟨t, hexec, hrun⟩ := exists_exec_runStored hi (fun _ => h0) hend.le htotal
    obtain ⟨hfsm, hidx⟩ := hrun.ends (by omega)
    exact ⟨t, hexec, hfsm, hidx, hrun.sameCursor, fun u => sameCursor_of_step_dynBuild hfsm⟩

end Sys2Proof.Machine
end

section
/-! PROOFS. `Decode` on a list of bits (41 R160, R161): along the bits of a word, at its end, and at a dead end. -/

namespace Sys2Proof.Machine

variable {L : List Nat} {m : Nat} {cs : List Code} {c : Code} {v l : Nat} {P : List Bool → Nat → Prop}

@[simp] theorem readBits_one_listSource_cons (b : Bool) (t : List Bool) :
    readBits listSource 1 .msb (b :: t) = .ok b.toNat t := by
  simp [readBits, readMsb]

@[simp] theorem readBits_one_listSource_nil : readBits listSource 1 .msb [] = .err .unexpectedEndOfInput [] := rfl

/-- Before any bit, the words ahead are the code words of the table. -/
theorem ahead_codes (hL : LengthsFit L m) (ho : overSubscribed L m = false) :
    Ahead (codes L m) 0 0 fun w x => ∃ c ∈ codes L m, c.sym = x ∧ c.bits = w where
  fits _ hc := ⟨(len_of_mem_codes hL hc).1, code_lt_two_pow_of_mem_codes hL ho hc⟩
  read := Nat.one_pos
  word_iff _ _ := by simp

/-- The loop reads bits with which words ahead begin and before whose end none ends. -/
theorem Ahead.decodeLoop_along (h : Ahead cs v l P) {p : List Bool} (hsome : ∃ w x, P (p ++ w) x)
    (hlong : ∀ q x, q <+: p → q ≠ p → ¬ P q x) :
    ∃ cs' v', Ahead cs' v' (l + p.length) (fun w x => P (p ++ w) x) ∧ ∀ (n : Nat) (rest : List Bool),
      decodeLoop listSource (p.length + n) cs v l (p ++ rest) = decodeLoop listSource n cs' v' (l + p.length) rest := by
  induction p generalizing cs v l P with
  | nil => exact ⟨cs, v, h, fun n rest => by simp⟩
  | cons b p ih =>
    obtain ⟨w, x, hw⟩ := hsome
    obtain ⟨cs', v', hahead, hloop⟩ := ih (h.next b) ⟨w, x, hw⟩ fun q y hq hne =>
      hlong (b :: q) y (List.cons_prefix_cons.2 ⟨rfl, hq⟩) (by simpa using hne)
    have hl : l + 1 + p.length = l + (b :: p).length := by simp; omega
    rw [hl] at hahead hloop
    refine ⟨cs', v', hahead, fun n rest => ?_⟩
    have hempty : ∀ y, ¬ P [] y := fun y => hlong [] y List.nil_prefix (by simp)
    rw [show (b :: p).length + n = p.length + n + 1 by simp; omega, h.decodeLoop_of_longer listSource _ _ ⟨_, x, hw⟩ hempty]
    simp [hloop]

/-- What the loop answers from a list is a word that was ahead, and it has taken that word from the list. -/
theorem Ahead.word_of_decodeLoop_eq_ok (h : Ahead cs v l P) {n x : Nat} {s t : List Bool}
    (hok : decodeLoop listSource n cs v l s = .ok x t) : ∃ w, P w x ∧ s = w ++ t := by
  induction n generalizing cs v l P s with
  | zero => cases hok
  | succ n ih =>
    simp only [decodeLoop] at hok
    split at hok
    next => cases hok
    next =>
      split at hok
      next c hfind =>
        cases hok
        have hc := List.mem_of_mem_filter (List.mem_of_find?_eq_some hfind)
        have hword := (h.isWord_iff hc).1 (List.find?_some (p := fun c : Code => c.isWord l v) hfind)
        exact ⟨[], (h.word_iff [] c.sym).2 ⟨c, hc, rfl, by rw [hword, List.append_nil]⟩, rfl⟩
      next =>
        rcases s with _ | ⟨b, s⟩
        · cases hok
        · rw [readBits_one_listSource_cons] at hok
          obtain ⟨w, hw, rfl⟩ := ih (h.next b) hok
          exact ⟨b :: w, hw, rfl⟩

section Accepted

variable (hL : LengthsFit L m) (ho : overSubscribed L m = false)
include hL ho

/-- A code word ends inside no other. -/
theorem not_mem_codes_of_proper_prefix {q : List Bool} (hc : c ∈ codes L m) (hq : q <+: c.bits) (hne : q ≠ c.bits) :
    ∀ d ∈ codes L m, d.bits ≠ q := by
  rintro d hd rfl
  exact hne (congrArg Code.bits (eq_of_bits_prefix hL ho hd hc hq))

/-- 41 R160: a code word is read to its end, and no further. -/
theorem decodeSymbol_bits_append (hc : c ∈ codes L m) (rest : List Bool) :
    decodeSymbol listSource L m (c.bits ++ rest) = .ok c.sym rest := by
  obtain ⟨cs, v, hahead, hloop⟩ := (ahead_codes hL ho).decodeLoop_along (p := c.bits) ⟨[], c.sym, c, hc, rfl, by simp⟩
    fun q _ hq hne ⟨d, hd, _, hdq⟩ => not_mem_codes_of_proper_prefix hL ho hc hq hne d hd hdq
  have hlen : c.bits.length ≤ m := by simpa [Code.bits_eq] using (len_of_mem_codes hL hc).2
  rw [decodeSymbol, show m + 2 = c.bits.length + (m - c.bits.length + 1 + 1) by omega, hloop]
  refine hahead.decodeLoop_of_word _ _ _ fun w x => ⟨fun ⟨d, hd, hx, hdw⟩ => ?_, fun ⟨hw, hx⟩ => ⟨c, hc, hx.symm, by simp [hw]⟩⟩
  obtain rfl := eq_of_bits_prefix hL ho hc hd ⟨w, hdw.symm⟩
  exact ⟨by simpa using hdw.symm, hx.symm⟩

/-- What `Decode` answers from a list is the symbol of a code word, and it has taken that word from the list. -/
theorem code_of_decodeSymbol_eq_ok {x : Nat} {s t : List Bool} (h : decodeSymbol listSource L m s = .ok x t) :
    ∃ c ∈ codes L m, c.sym = x ∧ s = c.bits ++ t := by
  obtain ⟨_, ⟨c, hc, hx, rfl⟩, hs⟩ := (ahead_codes hL ho).word_of_decodeLoop_eq_ok h
  exact ⟨c, hc, hx, hs⟩

/-- 41 R161: inside a code word one more bit is read, and it decides between the codes that go on with it. -/
theorem decodeSymbol_inside_word {p : List Bool} (hc : c ∈ codes L m) (hp : p <+: c.bits) (hne : p ≠ c.bits) :
    decodeSymbol listSource L m p = .err .unexpectedEndOfInput [] ∧
    ∀ (b : Bool) (rest : List Bool), (∀ d ∈ codes L m, ¬ (p ++ [b]) <+: d.bits) →
      decodeSymbol listSource L m (p ++ b :: rest) = .err .incompleteHuffmanTable rest := by
  have hbefore : ∀ q x, q <+: p → q ≠ c.bits → ¬ ∃ d ∈ codes L m, d.sym = x ∧ d.bits = q :=
    fun q _ hq hqc ⟨d, hd, _, hdq⟩ => not_mem_codes_of_proper_prefix hL ho hc (hq.trans hp) hqc d hd hdq
  obtain ⟨w, hw⟩ := hp
  obtain ⟨cs, v, hahead, hloop⟩ := (ahead_codes hL ho).decodeLoop_along (p := p) ⟨w, c.sym, c, hc, rfl, hw.symm⟩
    fun q x hq hqp => hbefore q x hq fun hqc => hqp (hq.eq_of_length_le (hqc ▸ ⟨w, hw⟩ : p <+: q).length_le)
  have hlen : p.length ≤ m := by
    have hle := (len_of_mem_codes hL hc).2
    have hsum : p.length + w.length = c.len := by simpa [Code.bits_eq] using congrArg List.length hw
    omega
  have hfuel : m + 2 = p.length + (m + 1 - p.length + 1) := by omega
  have hread := fun s => hahead.decodeLoop_of_longer listSource (m + 1 - p.length) s ⟨w, c.sym, c, hc, rfl, hw.symm⟩
    fun x => by simpa using hbefore p x List.prefix_rfl hne
  constructor
  · have hend := hloop (m + 1 - p.length + 1) []
    rw [← hfuel, List.append_nil, hread] at hend
    exact hend
  · intro b rest hdead
    rw [decodeSymbol, hfuel, hloop, hread, readBits_one_listSource_cons, Rd.bind_ok]
    refine (hahead.next b).decodeLoop_of_none _ _ _ fun u x ⟨d, hd, _, hdu⟩ => hdead d hd ⟨u, ?_⟩
    rw [hdu, List.append_assoc, List.singleton_append]

end Accepted

/-- A table of unused symbols has no code. -/
theorem codes_eq_nil_of_unused (hL : LengthsFit L m) (h0 : ∀ l ∈ L, l = 0) : codes L m = [] :=
  List.eq_nil_iff_forall_not_mem.2 fun c hc => by
    obtain ⟨hk, h1, -, -⟩ := closed_form_of_mem_codes hL hc
    exact absurd (h0 _ (List.mem_of_getElem? hk)) (by omega)

/-- Settles O7: no word ends before the code word does, and then no other is ahead. -/
theorem decodeReadsBackEveryCode : Obligations.DecodeReadsBackEveryCode :=
  fun _ _ _ rest hL ho hc => decodeSymbol_bits_append hL ho hc rest

/-- Settles O8: what the bits read say of every code word decides where the loop stops. -/
theorem decodeStopsAtTheFirstDeadEnd : Obligations.DecodeStopsAtTheFirstDeadEnd := by
  refine fun L m hL ho => ⟨fun c p rest b hc hp hne => ?_, fun h0 s => ?_⟩
  · obtain ⟨hend, hdead⟩ := decodeSymbol_inside_word hL ho hc hp hne
    exact ⟨hdead b rest, hend⟩
  · exact (ahead_codes hL ho).decodeLoop_of_none _ _ _ fun w x ⟨c, hc, _⟩ => by simp [codes_eq_nil_of_unused hL h0] at hc

end Sys2Proof.Machine
end

section
/-! PROOFS. Elements and their fields (30_encoding R90 to R96, R110): an element is built from its fields and taken apart into
them again. -/

namespace Sys2Proof

open Sys2Proof.Machine

/-- An element is the one with its fields. -/
theorem Instr.instr_head (i : Instr) : i.head.instr = i := by
  cases i
  -- Without an extra field the two agree by computation; an extra field comes back from its value.
  any_goals rfl
  all_goals exact congrArg _ (BitVec.ofNat_toNat _ _)

/-- A code-length symbol is taken as the last one when it is beyond the alphabet, and its extra field modulo its bits. -/
theorem head_instr_cl (c e : Nat) : (Head.instr (.cl c e)).head = .cl (min c 18) (e % 2 ^ clExtraBits (min c 18)) := by
  obtain hc | hc := Nat.lt_or_ge c 19
  · interval_cases c
    any_goals rfl
    all_goals exact congrArg (Head.cl _) (Nat.mod_one e).symm
  · rw [min_eq_right (by omega), Head.instr, List.getD_eq_default _ _ hc]
    rfl

theorem head_instr_ll (y e : Nat) : (Head.instr (.ll y e)).head = .ll (min y 287) (e % 2 ^ llExtraBits (min y 287)) := by
  obtain hy | hy := Nat.lt_or_ge y 288
  · interval_cases y
    any_goals rfl
    all_goals exact congrArg (Head.ll _) (Nat.mod_one e).symm
  · have hlen : llTable.length = 288 := by decide +kernel
    rw [min_eq_right (by omega), Head.instr, List.getD_eq_default _ _ (hlen ▸ hy)]
    exact congrArg (Head.ll _) (Nat.mod_one e).symm

theorem head_instr_dist (d e : Nat) :
    (Head.instr (.dist d e)).head = .dist (min d 31) (e % 2 ^ distExtraBits (min d 31)) := by
  obtain hd | hd := Nat.lt_or_ge d 32
  · interval_cases d
    any_goals rfl
    all_goals exact congrArg (Head.dist _) (Nat.mod_one e).symm
  · rw [min_eq_right (by omega), Head.instr, List.getD_eq_default _ _ hd]
    exact congrArg (Head.dist _) (Nat.mod_one e).symm

theorem head_instr_header (t : BitVec 2) (f : BitVec 1) : (Head.instr (.header t f)).head = .header t f := by
  obtain rfl | rfl | rfl | rfl : t = 0 ∨ t = 1 ∨ t = 2 ∨ t = 3 := by revert t; decide
  all_goals rfl

/-- Well-formed fields are the fields of the element they make. -/
theorem head_instr_of_wf {h : Head} (hw : h.wf = true) : h.instr.head = h := by
  cases h with
  | header t f => exact head_instr_header t f
  | stored len nlen => rfl
  | dyn hlit hdist hclen cll => rfl
  | cl c e =>
    obtain ⟨hc, he⟩ : c < 19 ∧ e < 2 ^ clExtraBits c := by simpa [Head.wf] using hw
    rw [head_instr_cl, min_eq_left (by omega), Nat.mod_eq_of_lt he]
  | ll y e =>
    obtain ⟨hy, he⟩ : y < 288 ∧ e < 2 ^ llExtraBits y := by simpa [Head.wf] using hw
    rw [head_instr_ll, min_eq_left (by omega), Nat.mod_eq_of_lt he]
  | dist d e =>
    obtain ⟨hd, he⟩ : d < 32 ∧ e < 2 ^ distExtraBits d := by simpa [Head.wf] using hw
    rw [head_instr_dist, min_eq_left (by omega), Nat.mod_eq_of_lt he]

/-- Whatever the fields, the element they make is well formed, but for a dynamic header with a list of the wrong length. -/
theorem wf_instr {h : Head} (hdyn : ∀ hlit hdist hclen cll, h = .dyn hlit hdist hclen cll → cll.length = hclen.toNat + 4) :
    h.instr.wf = true := by
  have hmod : ∀ e n : Nat, e % 2 ^ n < 2 ^ n := fun e n => Nat.mod_lt _ (by positivity)
  cases h with
  | header t f => simp [Instr.wf, head_instr_header, Head.wf]
  | stored len nlen => rfl
  | dyn hlit hdist hclen cll => simpa [Instr.wf, Head.instr, Instr.head, Head.wf] using hdyn _ _ _ _ rfl
  | cl c e => simp [Instr.wf, head_instr_cl, Head.wf, hmod]
  | ll y e => simp [Instr.wf, head_instr_ll, Head.wf, hmod]
  | dist d e => simp [Instr.wf, head_instr_dist, Head.wf, hmod]

variable {i : Instr} {e : Nat}

/-- The symbol of an element is in its alphabet, and its extra field fits the symbol's bits. -/
theorem bounds_of_head_eq_cl {c : Nat} (h : i.head = .cl c e) : c ≤ 18 ∧ e < 2 ^ clExtraBits c := by
  have hi := head_instr_cl c e
  rw [← h, i.instr_head, h] at hi
  injection hi with hc he
  rw [← hc] at he
  exact ⟨by omega, he ▸ Nat.mod_lt _ (by positivity)⟩

theorem bounds_of_head_eq_ll {y : Nat} (h : i.head = .ll y e) : y ≤ 287 ∧ e < 2 ^ llExtraBits y := by
  have hi := head_instr_ll y e
  rw [← h, i.instr_head, h] at hi
  injection hi with hy he
  rw [← hy] at he
  exact ⟨by omega, he ▸ Nat.mod_lt _ (by positivity)⟩

theorem bounds_of_head_eq_dist {d : Nat} (h : i.head = .dist d e) : d ≤ 31 ∧ e < 2 ^ distExtraBits d := by
  have hi := head_instr_dist d e
  rw [← h, i.instr_head, h] at hi
  injection hi with hd he
  rw [← hd] at he
  exact ⟨by omega, he ▸ Nat.mod_lt _ (by positivity)⟩

end Sys2Proof
end

section
/-! PROOFS. Encoding and decoding (30_encoding R90 to R98): each field and each code word, written and read back. -/

namespace Sys2Proof.Machine

variable {L : List Nat} {m : Nat}

/-- A field written bit 0 first reads back. -/
theorem readBits_lsbBits {n v : Nat} (h : v < 2 ^ n) (rest : List Bool) :
    readBits listSource n .lsb (lsbBits n v ++ rest) = .ok v rest :=
  readLsb_lsbBits n v rest h

/-- What a field reads as, written, is what has been read. -/
theorem lsbBits_of_readBits_eq_ok {n v : Nat} {s t : List Bool} (h : readBits listSource n .lsb s = .ok v t) :
    v < 2 ^ n ∧ s = lsbBits n v ++ t := by
  induction n generalizing v s with
  | zero => cases h; exact ⟨Nat.one_pos, rfl⟩
  | succ n ih =>
    rcases s with _ | ⟨b, s⟩
    · cases h
    · rw [readBits_succ_of_next (listSource_next_cons b s), Rd.bind_eq_ok] at h
      obtain ⟨w, u, hw, hjoin⟩ := h
      cases hjoin
      obtain ⟨hlt, rfl⟩ := ih hw
      have hb := b.toNat_lt
      refine ⟨by rw [joinBit, pow_succ]; omega, ?_⟩
      have hdiv : (b.toNat + 2 * w) / 2 = w := by omega
      rw [joinBit, lsbBits_succ, hdiv]
      cases b <;> simp [Nat.testBit_zero]

theorem length_lsbBits (n v : Nat) : (lsbBits n v).length = n := by simp [lsbBits]

/-- The code-length lengths of a dynamic header read back. -/
theorem readClLens_flatMap {cs : List Nat} {cll : List (BitVec 3)} (h : cll.length = cs.length) (rest : List Bool) :
    readClLens listSource cs ((cll.flatMap fun v => lsbBits 3 v.toNat) ++ rest) = .ok cll rest := by
  induction cll generalizing cs with
  | nil => obtain rfl := List.length_eq_zero_iff.1 h.symm; rfl
  | cons v vs ih =>
    obtain ⟨c, cs, rfl⟩ := List.exists_cons_of_length_eq_add_one h.symm
    rw [readClLens, List.flatMap_cons, List.append_assoc, readBits_lsbBits v.isLt, Rd.bind_ok, listSource_latch,
      ih (by simpa using h)]
    simp

theorem flatMap_of_readClLens_eq_ok {cs : List Nat} {cll : List (BitVec 3)} {s t : List Bool}
    (h : readClLens listSource cs s = .ok cll t) :
    cll.length = cs.length ∧ s = (cll.flatMap fun v => lsbBits 3 v.toNat) ++ t := by
  induction cs generalizing cll s with
  | nil => cases h; exact ⟨rfl, rfl⟩
  | cons c cs ih =>
    simp only [readClLens, Rd.bind_eq_ok, listSource_latch] at h
    obtain ⟨v, u, hv, vs, u', hvs, hcons⟩ := h
    cases hcons
    obtain ⟨hlt, rfl⟩ := lsbBits_of_readBits_eq_ok hv
    obtain ⟨hlen, rfl⟩ := ih hvs
    refine ⟨by simp [hlen], ?_⟩
    rw [List.flatMap_cons, BitVec.toNat_ofNat, Nat.mod_eq_of_lt hlt, List.append_assoc]

theorem length_take_clOrder (hclen : BitVec 4) : (clOrder.take (hclen.toNat + 4)).length = hclen.toNat + 4 := by
  have hlen : clOrder.length = 19 := rfl
  have := hclen.isLt
  rw [List.length_take, hlen]
  omega

/-- The bits of a symbol are those of its code word. -/
theorem symbolBits_eq_some_iff {x : Nat} {bits : List Bool} :
    symbolBits L m x = some bits ↔ ∃ c ∈ codes L m, c.sym = x ∧ c.bits = bits := by
  simp only [symbolBits, Option.map_eq_some_iff]
  constructor
  · rintro ⟨c, hc, rfl⟩
    exact ⟨c, List.mem_of_find?_eq_some hc, by simpa using List.find?_some hc, rfl⟩
  · rintro ⟨c, hc, rfl, rfl⟩
    obtain ⟨d, hd⟩ := Option.isSome_iff_exists.1
      (List.find?_isSome (p := fun d : Code => d.sym == c.sym).2 ⟨c, hc, by simp⟩)
    have hsym : d.sym = c.sym := by simpa using List.find?_some hd
    exact ⟨d, hd, by rw [eq_of_mem_codes_of_sym_eq (List.mem_of_find?_eq_some hd) hc hsym]⟩

section Accepted

variable {n x : Nat} (h : TableFits L n m)
include h

/-- 41 R160: the code word of a symbol decodes to it. -/
theorem TableFits.decodeSymbol_symbolBits {bits : List Bool} (hbits : symbolBits L m x = some bits) (rest : List Bool) :
    decodeSymbol listSource L m (bits ++ rest) = .ok x rest := by
  obtain ⟨-, hL, ho⟩ := h
  obtain ⟨c, hc, rfl, rfl⟩ := symbolBits_eq_some_iff.1 hbits
  exact decodeSymbol_bits_append hL ho hc rest

/-- What has been read when a symbol is answered is the symbol's code word. -/
theorem TableFits.symbolBits_of_decodeSymbol_eq_ok {s t : List Bool} (hok : decodeSymbol listSource L m s = .ok x t) :
    x < n ∧ ∃ bits, symbolBits L m x = some bits ∧ s = bits ++ t := by
  obtain ⟨hlen, hL, ho⟩ := h
  obtain ⟨c, hc, rfl, rfl⟩ := code_of_decodeSymbol_eq_ok hL ho hok
  exact ⟨(sym_lt_length_of_mem_codes hL hc).trans_le hlen, c.bits, symbolBits_eq_some_iff.2 ⟨c, hc, rfl, rfl⟩, rfl⟩

end Accepted

/-- Up to 7 bits before whole bytes are the pad that an alignment drops. -/
theorem align_pad_append {pad l : List Bool} (hpad : pad.length < 8) (hl : l.length % 8 = 0) :
    listSource.align (pad ++ l) = l := by
  have hmod : (pad ++ l).length % 8 = pad.length := by rw [List.length_append]; omega
  show (pad ++ l).drop ((pad ++ l).length % 8) = l
  rw [hmod, List.drop_left]

/-- Decoding the encoding of a header, of a stored body and of a dynamic header. -/
theorem decodeHeader_encoding (t : BitVec 2) (f : BitVec 1) (rest : List Bool) :
    decodeHeader listSource (lsbBits 1 f.toNat ++ (lsbBits 2 t.toNat ++ rest)) = .ok (Head.instr (.header t f)) rest := by
  simp only [decodeHeader, readBits_lsbBits f.isLt, readBits_lsbBits t.isLt, Rd.bind_ok, listSource_latch,
    BitVec.ofNat_toNat, BitVec.setWidth_eq]

theorem decodeStored_encoding (len nlen : BitVec 16) {pad rest : List Bool} (hpad : pad.length < 8)
    (hrest : rest.length % 8 = 0) :
    decodeStored listSource (pad ++ (lsbBits 16 len.toNat ++ (lsbBits 16 nlen.toNat ++ rest))) =
      .ok (.storedBody len nlen) rest := by
  have hwhole : (lsbBits 16 len.toNat ++ (lsbBits 16 nlen.toNat ++ rest)).length % 8 = 0 := by
    simp only [List.length_append, length_lsbBits]
    omega
  rw [decodeStored, align_pad_append hpad hwhole, readBits_lsbBits len.isLt, Rd.bind_ok, readBits_lsbBits nlen.isLt,
    Rd.bind_ok]
  simp [Head.instr]

theorem decodeDynHeader_encoding (hlit hdist : BitVec 5) (hclen : BitVec 4) {cll : List (BitVec 3)}
    (hlen : cll.length = hclen.toNat + 4) (rest : List Bool) :
    decodeDynHeader listSource (lsbBits 5 hlit.toNat ++ (lsbBits 5 hdist.toNat ++ (lsbBits 4 hclen.toNat ++
      ((cll.flatMap fun v => lsbBits 3 v.toNat) ++ rest)))) = .ok (.dynhdr hlit hdist hclen cll) rest := by
  have hback : ∀ {w : Nat} (v : BitVec w), BitVec.ofNat w v.toNat = v := fun v => by simp
  simp only [decodeDynHeader, readBits_lsbBits hlit.isLt, readBits_lsbBits hdist.isLt, readBits_lsbBits hclen.isLt,
    Rd.bind_ok, listSource_latch, hback, readClLens_flatMap (hlen.trans (length_take_clOrder hclen).symm), Head.instr]

end Sys2Proof.Machine
end

section
/-! PROOFS. The statements of 30_encoding on the decoder and the encoder, and on how matches are written. -/

namespace Sys2Proof.Machine

/-- The element with a symbol and its extra field, the extra field absent where a repeat with nothing to repeat is read. -/
theorem decodeCodeLen_of_decodeSymbol {L : List Nat} {first : Bool} {c e : Nat} {s t : List Bool}
    (hsym : decodeSymbol listSource L Config.MAXBITS_CL s =
      .ok c ((if first && c == 16 then [] else lsbBits (clExtraBits c) e) ++ t))
    (he : e < 2 ^ clExtraBits c) (h16 : first = true → c = 16 → e = 0) :
    decodeCodeLen listSource L first s = .ok (Head.instr (.cl c e)) t := by
  rw [decodeCodeLen, hsym, Rd.bind_ok]
  by_cases hstop : (first && c == 16) = true
  · obtain ⟨hfirst, hc⟩ : first = true ∧ c = 16 := by simpa using hstop
    rw [if_pos hstop, if_pos hstop, h16 hfirst hc]
    rfl
  · rw [if_neg hstop, if_neg hstop, readBits_lsbBits he, Rd.bind_ok]

/-- Settles O13: each field reads back, each code word decodes to its symbol, and an element is the one with its fields. -/
theorem decodeAfterEncode : Obligations.DecodeAfterEncode := by
  intro ctx i pad bits rest hfits hwf h16 hstored hpad henc
  have hi := i.instr_head
  rw [Instr.wf] at hwf
  -- A context encodes its own kind of element only.
  cases ctx <;> cases hhead : i.head <;>
    simp only [encode, hhead, Option.some.injEq, Option.map_eq_some_iff, reduceCtorEq] at henc hi hwf
  case header.header t f =>
    subst hi henc
    obtain rfl := hpad nofun
    rw [List.nil_append, List.append_assoc]
    exact decodeHeader_encoding t f rest
  case stored.stored len nlen =>
    subst hi henc
    obtain ⟨hlt, hrest⟩ := hstored rfl
    rw [List.append_assoc]
    exact decodeStored_encoding len nlen hlt hrest
  case dynHeader.dyn hlit hdist hclen cll =>
    subst hi henc
    obtain rfl := hpad nofun
    simp only [List.nil_append, List.append_assoc]
    exact decodeDynHeader_encoding hlit hdist hclen (by simpa [Head.wf] using hwf) rest
  case codeLen.cl L first c e =>
    obtain ⟨word, hword, rfl⟩ := henc
    obtain rfl := hpad nofun
    obtain ⟨-, he⟩ := bounds_of_head_eq_cl hhead
    rw [List.nil_append, List.append_assoc, ← hi]
    refine decodeCodeLen_of_decodeSymbol (TableFits.decodeSymbol_symbolBits hfits hword _) he ?_
    rintro rfl rfl
    have h0 := h16 L (BitVec.ofNat 2 e) rfl hi.symm
    have hmod : e % 4 = 0 := by simpa using congrArg BitVec.toNat h0
    exact (Nat.mod_eq_of_lt he).symm.trans hmod
  case litLen.ll L y e =>
    obtain ⟨word, hword, rfl⟩ := henc
    obtain rfl := hpad nofun
    obtain ⟨-, he⟩ := bounds_of_head_eq_ll hhead
    rw [List.nil_append, List.append_assoc, decodeElement, decodeLitLen,
      TableFits.decodeSymbol_symbolBits hfits hword, Rd.bind_ok, readBits_lsbBits he, Rd.bind_ok, hi]
  case distance.dist L d e =>
    obtain ⟨word, hword, rfl⟩ := henc
    obtain rfl := hpad nofun
    obtain ⟨-, he⟩ := bounds_of_head_eq_dist hhead
    rw [List.nil_append, List.append_assoc, decodeElement, decodeDistance,
      TableFits.decodeSymbol_symbolBits hfits hword, Rd.bind_ok, readBits_lsbBits he, Rd.bind_ok, hi]

/-- What the decoder of a context has read when it answers: a pad of a stored body, then the encoding of fields that are well
formed. -/
theorem encode_of_decodeElement_eq_ok {ctx : Ctx} {i : Instr} {l rest : List Bool} (hfits : CtxFits ctx)
    (h : decodeElement listSource ctx l = .ok i rest) :
    ∃ f pad bits, i = Head.instr f ∧ f.wf = true ∧ (∀ j : Instr, j.head = f → encode ctx j = some bits) ∧
      l = pad ++ (bits ++ rest) ∧ pad.length < 8 ∧ (ctx ≠ .stored → pad = []) := by
  have hback : ∀ {w v : Nat}, v < 2 ^ w → (BitVec.ofNat w v).toNat = v := fun hv => by
    rw [BitVec.toNat_ofNat, Nat.mod_eq_of_lt hv]
  cases ctx with
  | header =>
    simp only [decodeElement, decodeHeader, Rd.bind_eq_ok, listSource_latch] at h
    obtain ⟨f, s, hf, t, s', ht, hok⟩ := h
    cases hok
    obtain ⟨hlt, rfl⟩ := lsbBits_of_readBits_eq_ok hf
    obtain ⟨hlt', rfl⟩ := lsbBits_of_readBits_eq_ok ht
    refine ⟨_, [], lsbBits 1 f ++ lsbBits 2 t, rfl, rfl, fun j hj => by simp only [encode, hj, hback hlt, hback hlt'], ?_,
      by simp, fun _ => rfl⟩
    simp
  | stored =>
    simp only [decodeElement, decodeStored, Rd.bind_eq_ok] at h
    obtain ⟨len, s, hlen, nlen, s', hnlen, hok⟩ := h
    cases hok
    obtain ⟨hlt, halign⟩ := lsbBits_of_readBits_eq_ok hlen
    obtain ⟨hlt', rfl⟩ := lsbBits_of_readBits_eq_ok hnlen
    refine ⟨_, l.take (l.length % 8), lsbBits 16 len ++ lsbBits 16 nlen, rfl, rfl,
      fun j hj => by simp only [encode, hj, hback hlt, hback hlt'], ?_, ?_, fun hne => absurd rfl hne⟩
    · rw [List.append_assoc, ← halign]
      exact (List.take_append_drop _ l).symm
    · rw [List.length_take]
      omega
  | dynHeader =>
    simp only [decodeElement, decodeDynHeader, Rd.bind_eq_ok, listSource_latch] at h
    obtain ⟨hlit, s, hs, hdist, s', hs', hclen, s'', hs'', cll, u, hcll, hok⟩ := h
    cases hok
    obtain ⟨hlt, rfl⟩ := lsbBits_of_readBits_eq_ok hs
    obtain ⟨hlt', rfl⟩ := lsbBits_of_readBits_eq_ok hs'
    obtain ⟨hlt'', rfl⟩ := lsbBits_of_readBits_eq_ok hs''
    obtain ⟨hlen, rfl⟩ := flatMap_of_readClLens_eq_ok hcll
    rw [length_take_clOrder] at hlen
    refine ⟨_, [], lsbBits 5 hlit ++ (lsbBits 5 hdist ++ (lsbBits 4 hclen ++ cll.flatMap fun v => lsbBits 3 v.toNat)), rfl,
      by simp [Head.wf, hlen], fun j hj => by simp only [encode, hj, hback hlt, hback hlt', hback hlt''], ?_, by simp, fun _ => rfl⟩
    simp
  | codeLen L first =>
    simp only [decodeElement, decodeCodeLen, Rd.bind_eq_ok] at h
    obtain ⟨c, s, hc, hok⟩ := h
    obtain ⟨hlt, word, hword, rfl⟩ := TableFits.symbolBits_of_decodeSymbol_eq_ok hfits hc
    split at hok
    next hstop =>
      cases hok
      refine ⟨_, [], word, rfl, by simp [Head.wf, hlt], fun j hj => ?_, by simp, by simp, fun _ => rfl⟩
      simp only [encode, hj, hword, hstop]
      simp
    next hstop =>
      obtain ⟨e, u, he, hok⟩ := Rd.bind_eq_ok.1 hok
      cases hok
      obtain ⟨hlt', rfl⟩ := lsbBits_of_readBits_eq_ok he
      refine ⟨_, [], word ++ lsbBits (clExtraBits c) e, rfl, by simp [Head.wf, hlt, hlt'], fun j hj => ?_, by simp, by simp,
        fun _ => rfl⟩
      simp only [encode, hj, hword, if_neg hstop]
      simp
  | litLen L =>
    simp only [decodeElement, decodeLitLen, Rd.bind_eq_ok] at h
    obtain ⟨y, s, hy, e, u, he, hok⟩ := h
    cases hok
    obtain ⟨hlt, word, hword, rfl⟩ := TableFits.symbolBits_of_decodeSymbol_eq_ok hfits hy
    obtain ⟨hlt', rfl⟩ := lsbBits_of_readBits_eq_ok he
    refine ⟨_, [], word ++ lsbBits (llExtraBits y) e, rfl, by simp [Head.wf, hlt, hlt'], fun j hj => ?_, by simp, by simp,
      fun _ => rfl⟩
    simp [encode, hj, hword]
  | distance L =>
    simp only [decodeElement, decodeDistance, Rd.bind_eq_ok] at h
    obtain ⟨d, s, hd, e, u, he, hok⟩ := h
    cases hok
    obtain ⟨hlt, word, hword, rfl⟩ := TableFits.symbolBits_of_decodeSymbol_eq_ok hfits hd
    obtain ⟨hlt', rfl⟩ := lsbBits_of_readBits_eq_ok he
    refine ⟨_, [], word ++ lsbBits (distExtraBits d) e, rfl, by simp [Head.wf, hlt, hlt'], fun j hj => ?_, by simp, by simp,
      fun _ => rfl⟩
    simp [encode, hj, hword]

/-- Settles O14: well-formed fields are those of the element made from them. -/
theorem encodeAfterDecode : Obligations.EncodeAfterDecode := by
  intro ctx i l rest hfits h
  obtain ⟨f, pad, bits, rfl, hwf, henc, hl, hpad, hnone⟩ := encode_of_decodeElement_eq_ok hfits h
  have hhead := head_instr_of_wf hwf
  exact ⟨by rw [Instr.wf, hhead, hwf], pad, bits, henc _ hhead, hl, hpad, hnone⟩

end Sys2Proof.Machine
end

section
/-! PROOFS. How matches are written (30_encoding R112): the greatest base that is not above a value. -/

namespace Sys2Proof.Machine

/-- In a rising list the entries not above `x` are the first ones, as many as are counted. -/
theorem getD_le_iff_lt_countP {xs : List Nat} (h : xs.Pairwise (· < ·)) {k : Nat} (hk : k < xs.length) (x : Nat) :
    xs.getD k 0 ≤ x ↔ k < xs.countP fun b => decide (b ≤ x) := by
  induction xs generalizing k with
  | nil => simp at hk
  | cons a as ih =>
    obtain ⟨hfirst, has⟩ := List.pairwise_cons.1 h
    by_cases ha : a ≤ x
    · cases k with
      | zero => simp [ha]
      | succ k => simpa [ha] using ih has (by simpa using hk)
    · have hnone : ∀ b ∈ a :: as, ¬ b ≤ x := fun b hb => by
        rcases List.mem_cons.1 hb with rfl | hb
        · exact ha
        · have := hfirst b hb; omega
      have hcount : (a :: as).countP (fun b => decide (b ≤ x)) = 0 := by
        rw [List.countP_eq_zero]
        simpa using hnone
      have hget : (a :: as).getD k 0 ∈ a :: as := by rw [List.getD_eq_getElem _ _ hk]; exact List.getElem_mem hk
      rw [hcount]
      exact iff_of_false (hnone _ hget) (Nat.not_lt_zero k)

/-- The index that stands for `x` in a table of bases and extra bits in which each range reaches the next base:
its base is the greatest not above `x`, and the rest fits its extra field. -/
theorem greatest_base {base extra : List Nat} {n bound x : Nat} (hlen : base.length = n + 1) (hrise : base.Pairwise (· < ·))
    (hreach : ∀ k < n, base.getD (k + 1) 0 ≤ base.getD k 0 + 2 ^ extra.getD k 0)
    (hlast : bound < base.getD n 0 + 2 ^ extra.getD n 0) (hlo : base.getD 0 0 ≤ x) (hhi : x ≤ bound) :
    ∃ k, base.countP (fun b => decide (b ≤ x)) - 1 = k ∧ k ≤ n ∧ base.getD k 0 ≤ x ∧
      x - base.getD k 0 < 2 ^ extra.getD k 0 ∧ ∀ j, j ≤ n → base.getD j 0 ≤ x → j ≤ k ∧ base.getD j 0 ≤ base.getD k 0 := by
  have hcount : ∀ {j}, j ≤ n → (base.getD j 0 ≤ x ↔ j < base.countP fun b => decide (b ≤ x)) := fun hj =>
    getD_le_iff_lt_countP hrise (by omega) x
  have hpos := (hcount (Nat.zero_le n)).1 hlo
  have hle : base.countP (fun b => decide (b ≤ x)) ≤ n + 1 := hlen ▸ List.countP_le_length
  obtain ⟨k, hk⟩ : ∃ k, base.countP (fun b => decide (b ≤ x)) = k + 1 := ⟨_, (Nat.succ_pred_eq_of_pos hpos).symm⟩
  simp only [hk] at hcount hle ⊢
  have hkn : k ≤ n := by omega
  have hbase := (hcount hkn).2 (by omega)
  refine ⟨k, rfl, hkn, hbase, ?_, fun j hj hjx => ?_⟩
  · obtain hlt | rfl := hkn.lt_or_eq
    · have hnext : ¬ base.getD (k + 1) 0 ≤ x := (hcount hlt).not.2 (lt_irrefl _)
      have := hreach k hlt
      omega
    · omega
  · have hjk : j ≤ k := Nat.le_of_lt_succ ((hcount hj).1 hjx)
    refine ⟨hjk, ?_⟩
    obtain hlt | rfl := hjk.lt_or_eq
    · rw [List.getD_eq_getElem _ _ (by omega), List.getD_eq_getElem _ _ (by omega)]
      exact (List.pairwise_iff_getElem.1 hrise j k _ _ hlt).le
    · exact le_rfl

/-- Settles O16: both symbols by the greatest base, and the fields are those of the elements made from them. -/
theorem matchNotationStandsForItsMatch : Obligations.MatchNotationStandsForItsMatch := by
  intro len dist hlo hhi hlo' hhi'
  obtain ⟨k, hk, hkn, hbase, hextra, hgreatest⟩ := greatest_base (base := lenBase) (extra := lenExtra) (n := 28)
    (bound := 258) rfl (by decide) (by decide) (by decide) hlo hhi
  obtain ⟨d, hd, hdn, hbase', hextra', hgreatest'⟩ := greatest_base (base := dstBase) (extra := dstExtra) (n := 29)
    (bound := 32768) rfl (by decide) (by decide) (by decide) hlo' hhi'
  have hbits : llExtraBits (257 + k) = lenExtra.getD k 0 := by simp [llExtraBits]
  have hwf : Head.wf (.ll (257 + k) (len - lenBase.getD k 0)) = true := by
    simp only [Head.wf, Nat.blt_eq, Bool.and_eq_true, hbits]
    exact ⟨show 257 + k < 288 by omega, hextra⟩
  have hwf' : Head.wf (.dist d (dist - dstBase.getD d 0)) = true := by
    simp only [Head.wf, Nat.blt_eq, Bool.and_eq_true, distExtraBits]
    exact ⟨show d < 32 by omega, hextra'⟩
  refine ⟨257 + k, len - lenBase.getD k 0, d, dist - dstBase.getD d 0, ?_, ?_, by omega, by omega, hbits ▸ hextra, ?_,
    fun j hj hjl => ?_, fun h258 => ?_, hdn, hextra', ?_, fun j hj hjd => (hgreatest' j (by omega) hjd).2⟩
  · simp only [matchElements, hk]
    exact head_instr_of_wf hwf
  · simp only [matchElements, hd]
    exact head_instr_of_wf hwf'
  · rw [matchLength, Nat.add_sub_cancel_left, Nat.add_sub_cancel' hbase]
  · rw [Nat.add_sub_cancel_left]
    exact (hgreatest j (by omega) hjl).2
  · have h28 : lenBase.getD 28 0 ≤ len := h258.ge
    have := (hgreatest 28 le_rfl h28).1
    omega
  · exact Nat.add_sub_cancel' hbase'

/-- Settles O15: the words are written out, and the model decodes each of them. -/
theorem writtenWordsDecode : Obligations.WrittenWordsDecode := by
  refine ⟨?_, ?_, ?_, ?_, ?_, ?_, ?_, ?_, ?_, ?_⟩ <;> decide +kernel

end Sys2Proof.Machine
end

section
/-! PROOFS. The check of R152 as a sum over the used symbols, and the number of codes and of trie nodes (41 R152, R154, R157). -/

namespace Sys2Proof.Machine

variable {L : List Nat} {m : Nat}

/-- The space that counts of codes of lengths 1, 2, … take, in codes of the last of these lengths. -/
def codeSpace : List Nat → Nat
  | [] => 0
  | c :: cs => c * 2 ^ cs.length + codeSpace cs

/-- 41 R152: the loop fails exactly when the counts take more space than the codes left free are. -/
theorem kraftFails_iff (cs : List Nat) (left : Nat) : kraftFails cs left = true ↔ left * 2 ^ cs.length < codeSpace cs := by
  induction cs generalizing left with
  | nil => simp [kraftFails, codeSpace]
  | cons c cs ih =>
    rw [kraftFails, codeSpace, List.length_cons, pow_succ', ← mul_assoc, mul_comm left 2]
    split
    next hlt =>
      have hmul : (2 * left + 1) * 2 ^ cs.length ≤ c * 2 ^ cs.length := Nat.mul_le_mul_right _ hlt
      have hpos : 0 < 2 ^ cs.length := by positivity
      rw [add_mul] at hmul
      simp only [true_iff]
      omega
    next hle =>
      have hsplit : 2 * left * 2 ^ cs.length = c * 2 ^ cs.length + (2 * left - c) * 2 ^ cs.length := by
        rw [← add_mul, Nat.add_sub_cancel' (by omega)]
      rw [ih, hsplit]
      omega

theorem codeSpace_bumpAt {cs : List Nat} {k : Nat} (hk : k < cs.length) :
    codeSpace (bumpAt cs k) = codeSpace cs + 2 ^ (cs.length - 1 - k) := by
  induction cs generalizing k with
  | nil => simp at hk
  | cons c cs ih =>
    cases k with
    | zero => simp [bumpAt, codeSpace, add_mul]; omega
    | succ k =>
      have hk : k < cs.length := by simpa using hk
      simp only [bumpAt, codeSpace, length_bumpAt, ih hk, List.length_cons]
      rw [show cs.length + 1 - 1 - (k + 1) = cs.length - 1 - k by omega, Nat.add_assoc]

theorem kraftSum_cons (l : Nat) (L : List Nat) (m : Nat) :
    kraftSum (l :: L) m = (if l = 0 then 0 else 2 ^ (m - l)) + kraftSum L m := by
  by_cases hl : l = 0 <;> simp [kraftSum, hl]

theorem codeSpace_countLengths {count : List Nat} (hlen : count.length = m + 1) (hL : LengthsFit L m) :
    codeSpace (countLengths L count) = codeSpace count + kraftSum L m := by
  induction L generalizing count with
  | nil => simp [countLengths, kraftSum]
  | cons l L ih =>
    have hl : l ≤ m := hL l (by simp)
    have hL : LengthsFit L m := fun k hk => hL k (by simp [hk])
    rw [countLengths, kraftSum_cons]
    split
    next => rw [ih hlen hL, Nat.zero_add]
    next =>
      rw [ih (by simpa using hlen) hL, codeSpace_bumpAt (by omega), hlen, Nat.add_sub_cancel, Nat.add_assoc]

theorem codeSpace_replicate_zero (n : Nat) : codeSpace (List.replicate n 0) = 0 := by
  induction n with
  | zero => rfl
  | succ n ih => simp [List.replicate_succ, codeSpace, ih]

/-- The counts of all lengths take the space of the symbols. -/
theorem codeSpace_histogram (hL : LengthsFit L m) : codeSpace ((histogram L m).drop 1) = kraftSum L m := by
  have h := codeSpace_countLengths (count := List.replicate (m + 1) 0) (by simp) hL
  rw [codeSpace_replicate_zero, Nat.zero_add, ← histogram, histogram_eq_cons, codeSpace] at h
  simpa using h

/-- 41 R154: one code for each used symbol. -/
theorem length_codes (L : List Nat) (m : Nat) : (codes L m).length = L.countP (· ≠ 0) := by
  have hassign : ∀ (L : List Nat) (i : Nat) (next : List Nat), (assignCodes L i next).length = L.countP (· ≠ 0) := by
    intro L
    induction L with
    | nil => exact fun _ _ => rfl
    | cons l L ih =>
      intro i next
      rw [assignCodes]
      split
      next hl => simp [ih, hl]
      next hl => simp [ih, hl]
  exact hassign L 0 (startCodes L m)

/-- 41 R157: a trie of `k` codes has `2 k - 1` nodes. -/
theorem Trie.Spells.used_eq {t : Trie} {cs : List Code} (h : t.Spells cs) : t.used = 2 * cs.length - 1 := by
  rcases h with ⟨rfl, rfl⟩ | ⟨T, hT⟩
  · rfl
  · have := hT.used_add_one
    omega

/-- Settles O3: the codes left free at each length are what the counts up to it leave of the code space. -/
theorem overSubscriptionIsTheKraftSum : Obligations.OverSubscriptionIsTheKraftSum := by
  intro L m hL
  rw [overSubscribed, kraftFails_iff, codeSpace_histogram hL, List.length_drop, length_histogram, Nat.add_sub_cancel,
    Nat.one_mul]

/-- Settles O5: a symbol's code is found by the closed form, and a symbol has one code only. -/
theorem codesHaveTheClosedForm : Obligations.CodesHaveTheClosedForm := by
  refine fun L m hL => ⟨pairwise_sym_codes L m, fun c => ⟨fun hc => ?_, fun ⟨hk, h0, hcode⟩ => ?_⟩⟩
  · obtain ⟨hk, h1, -, hcode⟩ := closed_form_of_mem_codes hL hc
    exact ⟨hk, by omega, hcode⟩
  · have hfind := find?_codes hk h0 (hL _ (List.mem_of_getElem? hk))
    rw [← hcode] at hfind
    exact List.mem_of_find?_eq_some hfind

/-- Settles O10: the trie spells the codes, and there is one code for each used symbol. -/
theorem triesFitTheirArenas : Obligations.TriesFitTheirArenas := by
  intro L m t hm hn hL hbuild
  obtain ⟨-, hspells⟩ := spells_of_buildTrie hm hn hL hbuild
  have hused := hspells.used_eq
  rw [length_codes] at hused
  have hle : L.countP (· ≠ 0) ≤ L.length := List.countP_le_length
  exact ⟨hused, fun _ => by omega⟩

end Sys2Proof.Machine
end

section
/-! PROOFS. Decoding by the fixed tables over any source (42_block_decoder R192): what is read is read in fields, and the fields
give the symbol. -/

namespace Sys2Proof.Machine

variable {σ : Type} {src : Source σ} {L : List Nat} {cs : List Code} {m n v l : Nat}

/-- A field of `n` bits is below `2 ^ n`. -/
theorem lt_of_readBits_eq_ok {o : Order} {s t : σ} (h : readBits src n o s = .ok v t) : v < 2 ^ n := by
  induction n generalizing v s with
  | zero => rw [readBits_zero] at h; cases h; exact Nat.one_pos
  | succ n ih =>
    rcases hnext : src.next s with _ | ⟨b, u⟩
    · rw [readBits_succ_of_next_eq_none hnext] at h
      cases h
    · rw [readBits_succ_of_next hnext, Rd.bind_eq_ok] at h
      obtain ⟨w, _, hw, hjoin⟩ := h
      cases hjoin
      have hlt := ih hw
      rw [pow_succ]
      cases o <;> cases b <;> simp [joinBit] <;> omega

theorem Rd.bind_congr {α β : Type} {r : Rd σ α} {f g : α → σ → Rd σ β} (h : ∀ a t, r = .ok a t → f a t = g a t) :
    r.bind f = r.bind g := by
  cases r with
  | ok a t => exact h a t rfl
  | err e t => rfl

theorem Rd.bind_assoc {α β γ : Type} (r : Rd σ α) (f : α → σ → Rd σ β) (g : β → σ → Rd σ γ) :
    (r.bind f).bind g = r.bind fun a s => (f a s).bind g := by
  cases r <;> rfl

theorem Rd.bind_ok_right {α : Type} (r : Rd σ α) : r.bind Rd.ok = r := by cases r <;> rfl

/-- A field, most significant bit first, one bit at a time from its last. -/
theorem readBits_msb_succ (n : Nat) (s : σ) : readBits src (n + 1) .msb s =
    (readBits src n .msb s).bind fun v t => (readBits src 1 .msb t).bind fun b u => .ok (v * 2 + b) u := by
  induction n generalizing s with
  | zero =>
    rw [readBits_zero, Rd.bind_ok]
    simpa using (Rd.bind_ok_right _).symm
  | succ n ih =>
    rcases h : src.next s with _ | ⟨b, t⟩
    · rw [readBits_succ_of_next_eq_none h, readBits_succ_of_next_eq_none h, Rd.bind_err]
    · rw [readBits_succ_of_next h, readBits_succ_of_next h, ih]
      simp only [Rd.bind_assoc, Rd.bind_ok, joinBit, pow_succ, ← mul_assoc]
      refine Rd.bind_congr fun v u _ => Rd.bind_congr fun c w _ => ?_
      congr 1
      ring

/-- A code that begins with some bits begins with all of them but the last. -/
theorem Code.hasPrefix_of_succ {c : Code} {b : Nat} (hb : b < 2) (h : c.hasPrefix (l + 1) (v * 2 + b) = true) :
    c.hasPrefix l v = true := by
  rw [Code.hasPrefix_iff] at h ⊢
  obtain ⟨h1, hl, hcode⟩ := h
  refine ⟨h1, by omega, ?_⟩
  rw [show c.len - l = c.len - (l + 1) + 1 by omega, Nat.shiftRight_add, hcode, Nat.shiftRight_one]
  omega

/-- The codes that the loop has dropped would be dropped one bit later. -/
theorem decodeLoop_filter_hasPrefix {b : Nat} (hb : b < 2) (s : σ) :
    decodeLoop src n (cs.filter fun c => c.hasPrefix l v) (v * 2 + b) (l + 1) s =
      decodeLoop src n cs (v * 2 + b) (l + 1) s := by
  have hfilter : (cs.filter fun c => c.hasPrefix l v).filter (fun c => c.hasPrefix (l + 1) (v * 2 + b)) =
      cs.filter fun c => c.hasPrefix (l + 1) (v * 2 + b) := by
    rw [List.filter_filter]
    refine List.filter_congr fun c _ => ?_
    by_cases h : c.hasPrefix (l + 1) (v * 2 + b) = true
    · simp [h, Code.hasPrefix_of_succ hb h]
    · simp [h]
  cases n with
  | zero => rfl
  | succ n => simp only [decodeLoop, hfilter]

/-- Where the codes cover what may follow and none of them ends, the loop reads a bit. -/
theorem Covers.decodeLoop_read (h : Covers cs m v l) (hw : ∀ c ∈ cs, c.isWord l v = false) (s : σ) :
    decodeLoop src (n + 1) cs v l s =
      (readBits src 1 .msb s).bind fun b => decodeLoop src n cs (v * 2 + b) (l + 1) := by
  have hnone : (cs.filter fun c => c.hasPrefix l v).find? (fun c => c.isWord l v) = none :=
    List.find?_eq_none.2 fun c hc => by simp [hw c (List.mem_of_mem_filter hc)]
  simp only [decodeLoop, hnone]
  rw [if_neg (by simpa using h.filter_hasPrefix.ne_nil)]
  rcases readBits_one_msb_cases src s with ⟨-, hr⟩ | ⟨b, t, -, hr⟩
  · simp [hr]
  · simpa [hr] using decodeLoop_filter_hasPrefix b.toNat_lt t

/-- Up to as many bits as every code has, all bits are covered. -/
theorem Covers.after_readBits (h : Covers cs m 0 0) {k : Nat} (hk : ∀ c ∈ cs, k ≤ c.len) (hl : l ≤ k) (hv : v < 2 ^ l) :
    Covers cs m v l := by
  intro x hx
  obtain ⟨d, hd, -, -, hdm, -⟩ := h 0 (Nat.zero_shiftRight _)
  have hlm : l ≤ m := (hl.trans (hk d hd)).trans hdm
  have hx0 : x >>> (m - 0) = 0 := by
    rw [show m - 0 = m - l + l by omega, Nat.shiftRight_add, hx, Nat.shiftRight_eq_div_pow, Nat.div_eq_of_lt hv]
  obtain ⟨c, hc, -, h1, hm, hcode⟩ := h x hx0
  exact ⟨c, hc, hl.trans (hk c hc), h1, hm, hcode⟩

/-- As many bits as every code has are read at once. -/
theorem Covers.decodeLoop_readBits (h : Covers cs m 0 0) {k : Nat} (hk : ∀ c ∈ cs, k ≤ c.len) (s : σ) :
    decodeLoop src (k + n) cs 0 0 s = (readBits src k .msb s).bind fun u => decodeLoop src n cs u k := by
  have hread : ∀ j ≤ k, decodeLoop src (k + n) cs 0 0 s =
      (readBits src j .msb s).bind fun u => decodeLoop src (k - j + n) cs u j := by
    intro j
    induction j with
    | zero => intro _; rw [readBits_zero]; rfl
    | succ j ih =>
      intro hj
      rw [ih (by omega), readBits_msb_succ, Rd.bind_assoc]
      refine Rd.bind_congr fun v t hv => ?_
      rw [show k - j + n = k - (j + 1) + n + 1 by omega, (h.after_readBits hk (by omega) (lt_of_readBits_eq_ok hv)).decodeLoop_read,
        Rd.bind_assoc]
      · rfl
      · exact fun c hc => by simpa [Code.isWord] using fun hlen _ => absurd (hk c hc) (by omega)
  simpa using hread k le_rfl

/-- At the end of a code word of an accepted table the loop answers its symbol. -/
theorem decodeLoop_of_word {c : Code} (hL : LengthsFit L m) (ho : overSubscribed L m = false) (hc : c ∈ codes L m)
    (hl : c.len = l) (hv : c.code = v) (s : σ) : decodeLoop src (n + 1) (codes L m) v l s = .ok c.sym s := by
  subst hl hv
  have h1 := (len_of_mem_codes hL hc).1
  have hlive : c ∈ (codes L m).filter fun d => d.hasPrefix c.len c.code :=
    List.mem_filter.2 ⟨hc, Code.hasPrefix_iff.2 ⟨h1, le_rfl, by simp⟩⟩
  have hfind : ((codes L m).filter fun d => d.hasPrefix c.len c.code).find? (fun d => d.isWord c.len c.code) = some c := by
    obtain ⟨d, hd⟩ := Option.isSome_iff_exists.1 (List.find?_isSome (p := fun d : Code => d.isWord c.len c.code).2
      ⟨c, hlive, Code.isWord_iff.2 ⟨rfl, h1, rfl⟩⟩)
    obtain ⟨hlen, -, hcode⟩ := Code.isWord_iff.1 (List.find?_some (p := fun d : Code => d.isWord c.len c.code) hd)
    have hbits : d.bits = c.bits := by rw [Code.bits_eq, Code.bits_eq, hlen, hcode]
    rw [hd, eq_of_bits_prefix hL ho (List.mem_of_mem_filter (List.mem_of_find?_eq_some hd)) hc (hbits ▸ List.prefix_rfl)]
  simp only [decodeLoop, hfind]
  rw [if_neg (by simpa using List.ne_nil_of_mem hlive)]

theorem lengthsFit_fixedLl : LengthsFit fixedLl 15 := fun l hl => by
  simp only [fixedLl, List.mem_append, List.mem_replicate] at hl
  omega

theorem lengthsFit_fixedD : LengthsFit fixedD 15 := fun l hl => by
  rw [List.eq_of_mem_replicate hl]
  decide

theorem length_fixedLl : fixedLl.length = 288 := by
  simp only [fixedLl, List.length_append, List.length_replicate]

theorem length_fixedD : fixedD.length = 32 := List.length_replicate

theorem overSubscribed_fixedLl : overSubscribed fixedLl 15 = false := by decide +kernel

theorem overSubscribed_fixedD : overSubscribed fixedD 15 = false := by decide +kernel

/-- R101: every code of the fixed literal/length table is a listed one. -/
theorem eq_fixedLlCode_of_mem {c : Code} (hc : c ∈ codes fixedLl 15) : c.sym < 288 ∧ c = fixedLlCode c.sym := by
  have hlt := sym_lt_length_of_mem_codes lengthsFit_fixedLl hc
  rw [length_fixedLl] at hlt
  have hsym : (fixedLlCode c.sym).sym = c.sym := by unfold fixedLlCode; split_ifs <;> rfl
  exact ⟨hlt, eq_of_mem_codes_of_sym_eq hc (mem_codes_fixedLl hlt) hsym.symm⟩

theorem eq_of_mem_codes_fixedD {c : Code} (hc : c ∈ codes fixedD 15) : c = ⟨c.sym, 5, c.sym⟩ := by
  have hlt := sym_lt_length_of_mem_codes lengthsFit_fixedD hc
  rw [length_fixedD] at hlt
  exact eq_of_mem_codes_of_sym_eq hc (List.mem_of_find?_eq_some (find?_codes_fixedD hlt)) rfl

/-- The loop over the fixed literal/length codes at the end of the word of `x`. -/
theorem decodeLoop_fixedLl {x : Nat} (hx : x < 288) (hl : (fixedLlCode x).len = l) (hv : (fixedLlCode x).code = v) (s : σ) :
    decodeLoop src (n + 1) (codes fixedLl 15) v l s = .ok x s := by
  have hsym : (fixedLlCode x).sym = x := by unfold fixedLlCode; split_ifs <;> rfl
  rw [decodeLoop_of_word lengthsFit_fixedLl overSubscribed_fixedLl (mem_codes_fixedLl hx) hl hv, hsym]

/-- The codes of 7 bits are those up to 23, the codes of 8 bits the ones of two ranges. -/
theorem fixedLlCode_code_range {x : Nat} (hx : x < 288) :
    7 ≤ (fixedLlCode x).len ∧ ((fixedLlCode x).len = 7 → (fixedLlCode x).code ≤ 23) ∧
      ((fixedLlCode x).len = 8 → 48 ≤ (fixedLlCode x).code ∧ (fixedLlCode x).code ≤ 199) := by
  unfold fixedLlCode
  split_ifs <;> simp <;> omega

/-- 42 R192: after 7 bits of more than 23, the next bits decide by the ranges of the codes of 8 and 9 bits. -/
theorem decodeLoop_fixedLl_after_7 {u : Nat} (hu : u < 128) (h23 : 23 < u) (h : Covers (codes fixedLl 15) 9 u 7) (s : σ) :
    decodeLoop src (n + 3) (codes fixedLl 15) u 7 s = (readBits src 1 .msb s).bind fun b s =>
      if 48 ≤ u * 2 + b ∧ u * 2 + b ≤ 191 then .ok (u * 2 + b - 48) s
      else if 192 ≤ u * 2 + b ∧ u * 2 + b ≤ 199 then .ok (280 + (u * 2 + b - 192)) s
      else (readBits src 1 .msb s).bind fun b' s => .ok (144 + ((u * 2 + b) * 2 + b' - 400)) s := by
  have hno7 : ∀ c ∈ codes fixedLl 15, c.isWord 7 u = false := fun c hc => Bool.eq_false_iff.2 fun hword => by
    obtain ⟨hlt, hcode⟩ := eq_fixedLlCode_of_mem hc
    obtain ⟨hl, -, rfl⟩ := Code.isWord_iff.1 hword
    obtain ⟨-, hle, -⟩ := fixedLlCode_code_range hlt
    rw [← hcode] at hle
    have := hle hl
    omega
  rw [h.decodeLoop_read hno7]
  refine Rd.bind_congr fun b t hb => ?_
  have hb : b < 2 := lt_of_readBits_eq_ok hb
  split_ifs with h48 h192
  · exact decodeLoop_fixedLl (x := u * 2 + b - 48) (by omega) (by rw [fixedLlCode_of_lt_144 (by omega)])
      (by rw [fixedLlCode_of_lt_144 (by omega)]; dsimp only; omega) t
  · exact decodeLoop_fixedLl (x := 280 + (u * 2 + b - 192)) (by omega) (by rw [fixedLlCode_of_280_le (by omega)])
      (by rw [fixedLlCode_of_280_le (by omega)]; dsimp only; omega) t
  · have hno8 : ∀ c ∈ codes fixedLl 15, c.isWord 8 (u * 2 + b) = false := fun c hc => Bool.eq_false_iff.2 fun hword => by
      obtain ⟨hlt, hcode⟩ := eq_fixedLlCode_of_mem hc
      obtain ⟨hl, -, hv⟩ := Code.isWord_iff.1 hword
      obtain ⟨-, -, hle⟩ := fixedLlCode_code_range hlt
      rw [← hcode] at hle
      have := hle hl
      omega
    have hnext := h.next_bit hno7 (b == 1)
    rw [show (b == 1).toNat = b by interval_cases b <;> rfl] at hnext
    rw [hnext.decodeLoop_read hno8]
    refine Rd.bind_congr fun b' w hb' => ?_
    have hb' : b' < 2 := lt_of_readBits_eq_ok hb'
    exact decodeLoop_fixedLl (x := 144 + ((u * 2 + b) * 2 + b' - 400)) (by omega)
      (by rw [fixedLlCode_of_lt_256 (by omega) (by omega)])
      (by rw [fixedLlCode_of_lt_256 (by omega) (by omega)]; dsimp only; omega) w

/-- Settles O12: no fixed literal/length code is shorter than 7 bits, and the ranges of the classification are those of the codes
of 7, 8 and 9 bits; every 5 bits are a distance code. -/
theorem fixedTableAgreesWithTheClassification : Obligations.FixedTableAgreesWithTheClassification := by
  refine fun σ src s => ⟨?_, ?_⟩
  · have hlen : ∀ c ∈ codes fixedLl 15, 7 ≤ c.len := fun c hc => by
      obtain ⟨hlt, hcode⟩ := eq_fixedLlCode_of_mem hc
      exact hcode ▸ (fixedLlCode_code_range hlt).1
    rw [decodeSymbol, show 15 + 2 = 7 + 10 from rfl, covers_fixedLl.decodeLoop_readBits hlen, classifyFixedLl]
    refine Rd.bind_congr fun u t hu => ?_
    have hu : u < 128 := lt_of_readBits_eq_ok hu
    split_ifs with h23
    · exact decodeLoop_fixedLl (x := 256 + u) (by omega) (by rw [fixedLlCode_of_lt_280 (by omega) (by omega)])
        (by rw [fixedLlCode_of_lt_280 (by omega) (by omega)]; dsimp only; omega) t
    · exact decodeLoop_fixedLl_after_7 hu (by omega) (covers_fixedLl.after_readBits hlen le_rfl hu) t
  · have hlen : ∀ c ∈ codes fixedD 15, 5 ≤ c.len := fun c hc => by rw [eq_of_mem_codes_fixedD hc]
    rw [decodeSymbol, show 15 + 2 = 5 + 12 from rfl, covers_fixedD.decodeLoop_readBits hlen,
      ← Rd.bind_ok_right (readBits src 5 .msb s)]
    rw [Rd.bind_assoc]
    refine Rd.bind_congr fun u t hu => ?_
    have hmem : (⟨u, 5, u⟩ : Code) ∈ codes fixedD 15 :=
      List.mem_of_find?_eq_some (find?_codes_fixedD (lt_of_readBits_eq_ok hu))
    exact decodeLoop_of_word lengthsFit_fixedD overSubscribed_fixedD hmem rfl rfl t

end Sys2Proof.Machine
end

section
/-! PROOFS. What an element does, said once by its fields (42_block_decoder R182 to R207, 43 R221 to R226, 44 R240, R241): the
shared operation that each format calls, and the next states it can lead to. -/

namespace Sys2Proof.Machine

/-- Where a header of a type with a meaning leads (42 R182). -/
def headerNext (t : BitVec 2) : Fsm := if t = 0 then .stored else if t = 1 then .fixed else .dynHeader

/-- The meaning of an element by its fields. -/
def execHead (h : Head) (s : State) : Result :=
  match h with
  | .header t f =>
    if t = 3 then raised .invalidBlockType (latchHeader f t s) else .next { latchHeader f t s with fsm := headerNext t }
  | .stored len nlen => execStoredBody len nlen s
  | .dyn hlit hdist hclen cll => execDynhdr hlit hdist hclen cll s
  | .cl c e =>
    if c ≤ 15 then storeLengths 1 (BitVec.ofNat 4 c) s
    else if c = 16 then
      if s.idx = 0 then raised .malformedCodeLengthRun s else storeRun (3 + e) (s.lenAt (s.idx.toNat - 1)) s
    else if c = 17 then storeRun (3 + e) 0 s
    else storeRun (11 + e) 0 s
  | .ll y e =>
    if y ≤ 255 then literal (BitVec.ofNat 8 y) s
    else if y = 256 then endBlock s
    else if y ≤ 285 then lengthHalf y e s
    else raised .reservedSymbol s
  | .dist d x => if d ≤ 29 then distanceHalf d x s else raised .reservedSymbol s

/-- Every element means what its fields say. -/
theorem exec_eq_execHead (i : Instr) (s : State) : exec i s = execHead i.head s := by
  cases i
  all_goals rfl

/-- The next states an element can lead to, by its fields. -/
inductive Effect : Head → State → State → Prop
  | header {s : State} {t : BitVec 2} {f : BitVec 1} (ht : t ≠ 3) :
      Effect (.header t f) s { s with bfinal := f, btype := t, fsm := headerNext t }
  | reserved {s : State} {f : BitVec 1} :
      Effect (.header 3 f) s (State.raise { s with bfinal := f, btype := 3 } .invalidBlockType)
  | storedMismatch {s : State} {len nlen : BitVec 16} (hn : nlen ≠ complementOf len) :
      Effect (.stored len nlen) s (s.raise .storedLengthMismatch)
  | storedEnd {s : State} {len nlen : BitVec 16} (hn : nlen = complementOf len)
      (hi : s.inLen.toNat - s.cur.inPos.toNat < len.toNat) :
      Effect (.stored len nlen) s (s.raise .unexpectedEndOfInput)
  | storedFull {s : State} {len nlen : BitVec 16} (hn : nlen = complementOf len)
      (hi : len.toNat ≤ s.inLen.toNat - s.cur.inPos.toNat) (ho : s.outCap.toNat - s.outPos.toNat < len.toNat) :
      Effect (.stored len nlen) s (s.raise .outputBufferExhausted)
  | storedCopied {s : State} {len nlen : BitVec 16} (hn : nlen = complementOf len)
      (hi : len.toNat ≤ s.inLen.toNat - s.cur.inPos.toNat) (ho : len.toNat ≤ s.outCap.toNat - s.outPos.toNat) :
      Effect (.stored len nlen) s { s with
        omem := Memory.writeBytes s.omem s.outPos.toNat (Memory.readBytes s.imem s.cur.inPos.toNat len.toNat)
        cur := { s.cur with inPos := s.cur.inPos + BitVec.ofNat s.aw len.toNat }
        outPos := s.outPos + BitVec.ofNat s.aw len.toNat
        fsm := afterBlock s.bfinal }
  | dynFault {s : State} {hlit hdist : BitVec 5} {hclen : BitVec 4} {cll : List (BitVec 3)}
      (ho : overSubscribed (latchDynHeader hlit hdist hclen cll s).clLengths Config.MAXBITS_CL = true) :
      Effect (.dyn hlit hdist hclen cll) s ((latchDynHeader hlit hdist hclen cll s).raise .overSubscribedHuffmanTable)
  | dynBuilt {s : State} {hlit hdist : BitVec 5} {hclen : BitVec 4} {cll : List (BitVec 3)} {trie : Trie}
      (hb : buildTrie (latchDynHeader hlit hdist hclen cll s).clLengths Config.MAXBITS_CL = some trie) :
      Effect (.dyn hlit hdist hclen cll) s { latchDynHeader hlit hdist hclen cll s with
        clTrie := trie
        idx := 0
        total := BitVec.ofNat 9 ((litLenCount hlit).toNat + (distCount hdist).toNat)
        fsm := .dynLengths }
  | runFault {s : State} {c e : Nat}
      (h : (c = 16 ∧ s.idx = 0) ∨ (16 ≤ c ∧ s.total.toNat - s.idx.toNat < runLength c e)) :
      Effect (.cl c e) s (s.raise .malformedCodeLengthRun)
  | runStored {s : State} {c e : Nat} (h16 : c = 16 → s.idx ≠ 0)
      (hfit : 16 ≤ c → runLength c e ≤ s.total.toNat - s.idx.toNat)
      (hcap : s.idx.toNat + runLength c e ≤ Config.CAP_LENS) :
      Effect (.cl c e) s { s with
        lens := fillVector (runLength c e) s.idx.toNat (s.runValue c) s.lens
        idx := s.idx + BitVec.ofNat 9 (runLength c e)
        fsm := if s.idx + BitVec.ofNat 9 (runLength c e) = s.total then .dynBuild else .dynLengths }
  | literalFull {s : State} {y e : Nat} (hy : y ≤ 255) (ho : s.outCap.toNat ≤ s.outPos.toNat) :
      Effect (.ll y e) s (s.raise .outputBufferExhausted)
  | literal {s : State} {y e : Nat} (hy : y ≤ 255) (ho : s.outPos.toNat < s.outCap.toNat) :
      Effect (.ll y e) s { s with
        omem := Memory.write s.omem s.outPos.toNat (BitVec.ofNat 8 y), outPos := s.outPos + 1, fsm := .symbol }
  | endOfBlock {s : State} {e : Nat} : Effect (.ll 256 e) s { s with fsm := afterBlock s.bfinal }
  | length {s : State} {y e : Nat} (hlo : 257 ≤ y) (hhi : y ≤ 285) :
      Effect (.ll y e) s { s with matchLen := BitVec.ofNat 9 (matchLength y e) }
  | reservedLl {s : State} {y e : Nat} (hy : 286 ≤ y) : Effect (.ll y e) s (s.raise .reservedSymbol)
  | matchTooFar {s : State} {d x : Nat} (hd : d ≤ 29) (hb : s.outPos.toNat < matchDistance d x) :
      Effect (.dist d x) s (s.raise .backReferenceOutOfRange)
  | matchFull {s : State} {d x : Nat} (hd : d ≤ 29) (hb : matchDistance d x ≤ s.outPos.toNat)
      (ho : s.outCap.toNat - s.outPos.toNat < s.matchLen.toNat) :
      Effect (.dist d x) s (s.raise .outputBufferExhausted)
  | matchCopied {s : State} {d x : Nat} (hd : d ≤ 29) (hb : matchDistance d x ≤ s.outPos.toNat)
      (ho : s.matchLen.toNat ≤ s.outCap.toNat - s.outPos.toNat) :
      Effect (.dist d x) s { s with
        omem := matchMemory (matchDistance d x) s.matchLen.toNat s.omem s.outPos.toNat
        outPos := s.outPos + BitVec.ofNat s.aw s.matchLen.toNat
        matchLen := 0
        fsm := .symbol }
  | reservedDist {s : State} {d x : Nat} (hd : 30 ≤ d) : Effect (.dist d x) s (s.raise .reservedSymbol)

variable {h : Head} {s t : State}

theorem execStoredBody_copied {len nlen : BitVec 16} (hn : nlen = complementOf len)
    (hi : len.toNat ≤ s.inLen.toNat - s.cur.inPos.toNat) (ho : len.toNat ≤ s.outCap.toNat - s.outPos.toNat) :
    execStoredBody len nlen s = .next { s with
      omem := Memory.writeBytes s.omem s.outPos.toNat (Memory.readBytes s.imem s.cur.inPos.toNat len.toNat)
      cur := { s.cur with inPos := s.cur.inPos + BitVec.ofNat s.aw len.toNat }
      outPos := s.outPos + BitVec.ofNat s.aw len.toNat
      fsm := afterBlock s.bfinal } := by
  rw [execStoredBody, if_neg (not_not.2 hn), if_neg (by omega), if_neg (by omega), storedCopy_next _ _ hi ho]
  rfl

theorem matchDistance_pos {d : Nat} (x : Nat) (hd : d ≤ 29) : 1 ≤ matchDistance d x :=
  (dstBase_range d (by omega)).1.trans (Nat.le_add_right _ _)

theorem matchLength_range {y e : Nat} (hlo : 257 ≤ y) (hhi : y ≤ 285) (he : e < 2 ^ llExtraBits y) :
    3 ≤ matchLength y e ∧ matchLength y e ≤ 258 := by
  obtain ⟨hbase, htop⟩ := lenBase_range (y - 257) (by omega)
  rw [show llExtraBits y = lenExtra.getD (y - 257) 0 from if_pos hlo] at he
  unfold matchLength
  omega

/-- 43 R221: a code-length symbol stores its run unless it is a repeat with nothing to repeat or too long. -/
theorem execHead_cl_eq_storeLengths {c e : Nat} (hc : c ≤ 18) (h16 : c = 16 → s.idx ≠ 0)
    (hfit : 16 ≤ c → runLength c e ≤ s.total.toNat - s.idx.toNat) :
    execHead (.cl c e) s = storeLengths (runLength c e) (s.runValue c) s := by
  obtain hc | rfl | rfl | rfl : c ≤ 15 ∨ c = 16 ∨ c = 17 ∨ c = 18 := by omega
  · rw [execHead, if_pos hc, runLength, State.runValue, if_pos hc, if_pos hc]
  · exact (if_neg (h16 rfl)).trans (storeRun_of_fits _ (hfit le_rfl))
  · exact storeRun_of_fits _ (hfit (by decide))
  · exact storeRun_of_fits _ (hfit (by decide))

/-- An element that can lead to a state leads there. -/
theorem Effect.execHead_eq (he : Effect h s t) (hcl : ∀ c e, h = .cl c e → c ≤ 18) : execHead h s = .next t := by
  cases he with
  | header ht => exact if_neg ht
  | reserved => rfl
  | storedMismatch hn => exact if_pos hn
  | storedEnd hn hi => rw [execHead, execStoredBody, if_neg (not_not.2 hn), if_pos hi, raised_eq]
  | storedFull hn hi ho => rw [execHead, execStoredBody, if_neg (not_not.2 hn), if_neg hi.not_gt, if_pos ho, raised_eq]
  | storedCopied hn hi ho => exact execStoredBody_copied hn hi ho
  | dynFault ho => simp only [execHead, execDynhdr, build, buildTrie, ho, if_true, raised_eq]
  | dynBuilt hb => simp only [execHead, execDynhdr, build, hb]; rfl
  | @runFault _ c e h =>
    obtain ⟨rfl, h0⟩ | ⟨hc, hover⟩ := h
    · rw [execHead, if_neg (by omega), if_pos rfl, if_pos h0, raised_eq]
    · have hc' := hcl c e rfl
      obtain rfl | rfl | rfl : c = 16 ∨ c = 17 ∨ c = 18 := by omega
      · by_cases h0 : s.idx = 0
        · exact if_pos h0
        · exact (if_neg h0).trans (storeRun_of_overflow _ hover)
      · exact storeRun_of_overflow _ hover
      · exact storeRun_of_overflow _ hover
  | @runStored _ c e h16 hfit hcap =>
    rw [execHead_cl_eq_storeLengths (hcl c e rfl) h16 hfit]
    rcases storeLengths_cases (runLength c e) (s.runValue c) s with ⟨-, hnext⟩ | ⟨hout, -⟩
    · exact hnext
    · exact absurd hcap hout.not_ge
  | @literalFull _ y e hy ho =>
    rw [execHead, if_pos hy]
    exact if_pos ho
  | @literal _ y e hy ho =>
    rw [execHead, if_pos hy]
    rcases literal_cases (BitVec.ofNat 8 y) s with ⟨hfull, -⟩ | ⟨-, hnext⟩
    · exact absurd hfull ho.not_ge
    · exact hnext
  | endOfBlock => rfl
  | length hlo hhi => rw [execHead, if_neg (by omega), if_neg (by omega), if_pos hhi, lengthHalf]
  | reservedLl hy => rw [execHead, if_neg (by omega), if_neg (by omega), if_neg (by omega), raised_eq]
  | matchTooFar hd hb => rw [execHead, if_pos hd, distanceHalf, matchCopy, if_pos hb, raised_eq]
  | matchFull hd hb ho => rw [execHead, if_pos hd, distanceHalf, matchCopy, if_neg hb.not_gt, if_pos ho, raised_eq]
  | matchCopied hd hb ho =>
    rw [execHead, if_pos hd, distanceHalf, matchCopy, if_neg hb.not_gt, if_neg ho.not_gt,
      matchBytes_next _ _ _ hb (matchDistance_pos _ hd) ho]
    rfl
  | reservedDist hd => rw [execHead, if_neg (by omega), raised_eq]

theorem Effect.exec_eq {i : Instr} (he : Effect i.head s t) : exec i s = .next t :=
  (exec_eq_execHead i s).trans (he.execHead_eq fun _ _ hi => (bounds_of_head_eq_cl hi).1)

/-- Fields lead to a state, but for a run of code lengths that would be written outside `lens`. -/
theorem exists_effect (h : Head) (s : State) :
    (∃ t, Effect h s t) ∨ ∃ c e, h = .cl c e ∧ (c = 16 → s.idx ≠ 0) ∧
      (16 ≤ c → runLength c e ≤ s.total.toNat - s.idx.toNat) ∧ Config.CAP_LENS < s.idx.toNat + runLength c e := by
  cases h with
  | header t f =>
    by_cases ht : t = 3
    · subst ht; exact .inl ⟨_, .reserved⟩
    · exact .inl ⟨_, .header ht⟩
  | stored len nlen =>
    by_cases hn : nlen = complementOf len
    · obtain hi | hi := Nat.lt_or_ge (s.inLen.toNat - s.cur.inPos.toNat) len.toNat
      · exact .inl ⟨_, .storedEnd hn hi⟩
      · obtain ho | ho := Nat.lt_or_ge (s.outCap.toNat - s.outPos.toNat) len.toNat
        · exact .inl ⟨_, .storedFull hn hi ho⟩
        · exact .inl ⟨_, .storedCopied hn hi ho⟩
    · exact .inl ⟨_, .storedMismatch hn⟩
  | dyn hlit hdist hclen cll =>
    rcases hb : buildTrie (latchDynHeader hlit hdist hclen cll s).clLengths Config.MAXBITS_CL with _ | trie
    · have ho : overSubscribed (latchDynHeader hlit hdist hclen cll s).clLengths Config.MAXBITS_CL = true := by
        simpa [buildTrie] using hb
      exact .inl ⟨_, .dynFault ho⟩
    · exact .inl ⟨_, .dynBuilt hb⟩
  | cl c e =>
    by_cases hfault : (c = 16 ∧ s.idx = 0) ∨ (16 ≤ c ∧ s.total.toNat - s.idx.toNat < runLength c e)
    · exact .inl ⟨_, .runFault hfault⟩
    · obtain ⟨h16, hfit⟩ := not_or.1 hfault
      replace h16 : c = 16 → s.idx ≠ 0 := fun hc h0 => h16 ⟨hc, h0⟩
      replace hfit : 16 ≤ c → runLength c e ≤ s.total.toNat - s.idx.toNat := fun hc =>
        Nat.le_of_not_lt fun hover => hfit ⟨hc, hover⟩
      obtain hcap | hcap := Nat.lt_or_ge Config.CAP_LENS (s.idx.toNat + runLength c e)
      · exact .inr ⟨c, e, rfl, h16, hfit, hcap⟩
      · exact .inl ⟨_, .runStored h16 hfit hcap⟩
  | ll y e =>
    obtain hy | rfl | hy | hy : y ≤ 255 ∨ y = 256 ∨ (257 ≤ y ∧ y ≤ 285) ∨ 286 ≤ y := by omega
    · obtain ho | ho := Nat.lt_or_ge s.outPos.toNat s.outCap.toNat
      · exact .inl ⟨_, .literal hy ho⟩
      · exact .inl ⟨_, .literalFull hy ho⟩
    · exact .inl ⟨_, .endOfBlock⟩
    · exact .inl ⟨_, .length hy.1 hy.2⟩
    · exact .inl ⟨_, .reservedLl hy⟩
  | dist d x =>
    obtain hd | hd : d ≤ 29 ∨ 30 ≤ d := by omega
    · obtain hb | hb := Nat.lt_or_ge s.outPos.toNat (matchDistance d x)
      · exact .inl ⟨_, .matchTooFar hd hb⟩
      · obtain ho | ho := Nat.lt_or_ge (s.outCap.toNat - s.outPos.toNat) s.matchLen.toNat
        · exact .inl ⟨_, .matchFull hd hb ho⟩
        · exact .inl ⟨_, .matchCopied hd hb ho⟩
    · exact .inl ⟨_, .reservedDist hd⟩

/-- An element leads to a state, or it is a run of code lengths outside `lens` and stops (43 R227). -/
theorem exists_effect_or_fault (i : Instr) (s : State) :
    (∃ t, Effect i.head s t) ∨ exec i s = .fault .lensWriteOutside := by
  refine (exists_effect i.head s).imp_right fun ⟨c, e, hi, h16, hfit, hcap⟩ => ?_
  rw [exec_eq_execHead, hi, execHead_cl_eq_storeLengths (bounds_of_head_eq_cl hi).1 h16 hfit]
  rcases storeLengths_cases (runLength c e) (s.runValue c) s with ⟨hin, -⟩ | ⟨-, hfault⟩
  · exact absurd hcap hin.not_gt
  · exact hfault

/-- The next states of an element are those of its effects. -/
theorem exec_eq_next_iff {i : Instr} : exec i s = .next t ↔ Effect i.head s t := by
  refine ⟨fun h => ?_, Effect.exec_eq⟩
  rcases exists_effect_or_fault i s with ⟨u, hu⟩ | hfault
  · cases h.symm.trans hu.exec_eq
    exact hu
  · cases h.symm.trans hfault

end Sys2Proof.Machine
end

section
/-! PROOFS. The statements of 42_block_decoder and 44_match_copier on what elements do. -/

namespace Sys2Proof.Machine

/-- Settles O23: each header's arm of `exec` is what is stated. -/
theorem headersExecute : Obligations.HeadersExecute := fun _ _ => ⟨rfl, rfl, rfl, rfl⟩

/-- Settles O37: each reserved symbol's arm of `exec` raises. -/
theorem reservedSymbolsFault : Obligations.ReservedSymbolsFault := fun _ => ⟨rfl, rfl, rfl, rfl⟩

/-- Settles O25: the four ways a stored body goes, and the copy is one write of the payload. -/
theorem storedBodyCopiesItsPayload : Obligations.StoredBodyCopiesItsPayload := by
  refine fun len nlen s => ⟨fun hn => ?_, fun hn hi => ?_, fun hn hi ho => ?_, fun hn hi ho =>
    ⟨Memory.writeBytes s.omem s.outPos.toNat (Memory.readBytes s.imem s.cur.inPos.toNat len.toNat), ?_, fun k hk => ?_,
      fun a ha => ?_⟩⟩
  · exact Effect.exec_eq (i := .storedBody len nlen) (.storedMismatch hn)
  · exact Effect.exec_eq (i := .storedBody len nlen) (.storedEnd hn hi)
  · exact Effect.exec_eq (i := .storedBody len nlen) (.storedFull hn hi ho)
  · exact Effect.exec_eq (i := .storedBody len nlen) (.storedCopied hn hi ho)
  · have hget := Memory.getElem_readBytes s.imem s.cur.inPos.toNat len.toNat k hk
    rw [Memory.read_writeBytes, dif_pos (by rw [Memory.length_readBytes]; omega), ← hget]
    simp only [Nat.add_sub_cancel_left]
  · rw [Memory.read_writeBytes, dif_neg (by rw [Memory.length_readBytes]; omega)]

/-- Settles O35: a length element has one effect, and its value has its range. -/
theorem lengthHalfHoldsTheLength : Obligations.LengthHalfHoldsTheLength := by
  intro i y e hi hlo hhi s
  obtain ⟨h3, h258⟩ := matchLength_range hlo hhi (bounds_of_head_eq_ll hi).2
  have hval : (BitVec.ofNat 9 (matchLength y e)).toNat = matchLength y e := by
    rw [BitVec.toNat_ofNat, Nat.mod_eq_of_lt (by omega)]
  exact ⟨_, Effect.exec_eq (hi ▸ .length hlo hhi), hval, hval.symm ▸ h3, hval.symm ▸ h258⟩

/-- 44 R241: byte `k` of a match copy is the byte `k` of the repeated pattern of the last `distance` bytes. -/
theorem read_matchMemory {distance p : Nat} (hd : 0 < distance) (hp : distance ≤ p) {n k : Nat} (hk : k < n) (m : Memory) :
    Memory.read (matchMemory distance n m p) (p + k) = Memory.read m (p - distance + k % distance) := by
  induction n generalizing m p k with
  | zero => omega
  | succ n ih =>
    rw [matchMemory]
    cases k with
    | zero => rw [read_matchMemory_outside _ _ _ _ _ (by omega), Memory.read_write, if_pos (Nat.add_zero p), Nat.zero_mod,
        Nat.add_zero]
    | succ k =>
      have hmod := Nat.mod_lt k hd
      have hdiv := Nat.div_add_mod k distance
      rw [show p + (k + 1) = p + 1 + k by omega, ih (by omega) (by omega), Memory.read_write]
      -- The last byte of the pattern is followed by its first.
      obtain hwrap | hstep : k % distance + 1 = distance ∨ k % distance + 1 < distance := by omega
      · have hnext : (k + 1) % distance = 0 := by
          rw [← hdiv, Nat.add_assoc, hwrap, ← Nat.mul_succ, Nat.mul_mod_right]
        rw [if_pos (by omega), hnext, Nat.add_zero]
      · have hnext : (k + 1) % distance = k % distance + 1 := by
          rw [← hdiv, Nat.add_assoc, Nat.mul_add_mod, hdiv, Nat.mod_eq_of_lt hstep]
        rw [if_neg (by omega), hnext]
        congr 1
        omega

/-- Settles O36: the two faults come before the copy, and the copy is the pattern. -/
theorem distanceHalfCopiesTheMatch : Obligations.DistanceHalfCopiesTheMatch := by
  intro i d x hi hd s dist len
  have hpos : 0 < dist := matchDistance_pos x hd
  refine ⟨fun hb => ?_, fun hb ho => ?_, fun hb ho => ⟨matchMemory dist len s.omem s.outPos.toNat, ?_, fun k hk => ?_,
    fun a ha => ?_⟩⟩
  · exact Effect.exec_eq (hi ▸ .matchTooFar hd hb)
  · exact Effect.exec_eq (hi ▸ .matchFull hd hb ho)
  · exact Effect.exec_eq (hi ▸ .matchCopied hd hb ho)
  · exact read_matchMemory hpos hb hk s.omem
  · exact read_matchMemory_outside _ _ _ _ _ ha

/-- 42 R194: a list of lengths stands at the symbols it is for, the other symbols keep what they had. -/
theorem getD_placeClLens {cs : List Nat} (hnd : cs.Nodup) (hlt : ∀ c ∈ cs, c < Config.N_CL) (vs : List (BitVec 3))
    (a : Vector (BitVec 3) Config.N_CL) (c : Nat) :
    (placeClLens cs vs a).toList.getD c 0 =
      if cs.idxOf c < vs.length ∧ c ∈ cs then vs.getD (cs.idxOf c) 0 else a.toList.getD c 0 := by
  induction cs generalizing vs a with
  | nil => simp [placeClLens]
  | cons d cs ih =>
    obtain ⟨hd, hnd⟩ := List.nodup_cons.1 hnd
    have hlt' : ∀ c ∈ cs, c < Config.N_CL := fun c hc => hlt c (List.mem_cons_of_mem _ hc)
    cases vs with
    | nil => simp [placeClLens]
    | cons v vs =>
      rw [placeClLens, ih hnd hlt']
      by_cases hcd : c = d
      · subst hcd
        have hc := hlt c (by simp)
        simp [hd, hc]
      · simp [hcd, Ne.symm hcd]

/-- 42 R194: the lengths of a dynamic header in the order of `CL_ORDER`, and zero for the symbols after them. -/
theorem getD_clLenOf (cll : List (BitVec 3)) {j : Nat} (hj : j < Config.N_CL) :
    (clLenOf cll).toList.getD (clOrder.getD j 0) 0 = cll.getD j 0 := by
  have hnd : clOrder.Nodup := by decide
  have hlt : ∀ c ∈ clOrder, c < Config.N_CL := by decide
  have hlen : j < clOrder.length := hj
  rw [clLenOf, getD_placeClLens hnd hlt, List.getD_eq_getElem _ _ hlen, hnd.idxOf_getElem]
  split
  next => rfl
  next hout =>
    have hle : cll.length ≤ j := by simpa using hout
    rw [List.getD_eq_default _ _ hle]
    simp

/-- 41 R150: an accepted table has a trie. -/
theorem exists_buildTrie {L : List Nat} {m : Nat} (ho : overSubscribed L m = false) : ∃ t, buildTrie L m = some t :=
  ⟨_, if_neg (Bool.eq_false_iff.1 ho)⟩

theorem toNat_litLenCount (hlit : BitVec 5) : (litLenCount hlit).toNat = hlit.toNat + 257 := by
  unfold litLenCount
  bv_omega

theorem toNat_distCount (hdist : BitVec 5) : (distCount hdist).toNat = hdist.toNat + 1 := by
  unfold distCount
  bv_omega

theorem toNat_codeLenCount (hclen : BitVec 4) : (codeLenCount hclen).toNat = hclen.toNat + 4 := by
  unfold codeLenCount
  bv_omega

/-- Settles O26: every field is wide enough for its value, and `Build` decides between the two answers. -/
theorem dynamicHeaderSetsUpTheLengths : Obligations.DynamicHeaderSetsUpTheLengths := by
  intro hlit hdist hclen cll s
  have hll := toNat_litLenCount hlit
  have hd := toNat_distCount hdist
  refine ⟨latchDynHeader hlit hdist hclen cll s, rfl, hll, hd, toNat_codeLenCount hclen,
    fun j hj => getD_clLenOf cll hj, fun ho => ?_, fun ho => ?_⟩
  · exact Effect.exec_eq (i := .dynhdr hlit hdist hclen cll) (.dynFault ho)
  · obtain ⟨trie, hb⟩ := exists_buildTrie ho
    refine ⟨trie, _, hb, ?_, Effect.exec_eq (i := .dynhdr hlit hdist hclen cll) (.dynBuilt hb)⟩
    rw [BitVec.toNat_ofNat, hll, hd]
    omega

/-- Settles O38: by the effects of each format. -/
theorem execFrame : Obligations.ExecFrame := by
  intro i s t hexec
  have he := exec_eq_next_iff.1 hexec
  generalize i.head = h at he ⊢
  cases he
  -- The literals and the matches write output, which their symbols allow.
  case literal y e hy ho =>
    have hsym : ¬ 256 ≤ y := by omega
    simp [SameCursor, hsym]
  case matchCopied d x hd hb ho =>
    have hsym : ¬ 30 ≤ d := by omega
    simp [SameCursor, hsym]
  all_goals simp [SameCursor]

end Sys2Proof.Machine
end

section
/-! PROOFS. Two sources read alike: related sources give the same bits, so every decoder answers the same from them and leaves
them related (30_encoding R98). -/

namespace Sys2Proof

open Sys2Proof.Machine

/-- The registers that reading an element of this kind latches (42_block_decoder R182, R194). -/
def Ctx.Latches : Ctx → Latch → Prop
  | .header, .bfinal _ => True
  | .dynHeader, .bfinal _ => False
  | .dynHeader, _ => True
  | _, _ => False

/-- The kind of element that each context reads. -/
def Ctx.Reads : Ctx → Head → Prop
  | .header, .header _ _ => True
  | .stored, .stored _ _ => True
  | .dynHeader, .dyn _ _ _ _ => True
  | .codeLen _ _, .cl _ _ => True
  | .litLen _, .ll _ _ => True
  | .distance _, .dist _ _ => True
  | _, _ => False

/-- Whatever fields an element is made from, its own are of the same kind. -/
theorem Ctx.Reads.head_instr {ctx : Ctx} {f : Head} (h : ctx.Reads f) : ctx.Reads f.instr.head := by
  cases f with
  | header t f => rwa [head_instr_header]
  | stored len nlen => exact h
  | dyn hlit hdist hclen cll => exact h
  | cl c e => rw [head_instr_cl]; cases ctx <;> exact h
  | ll y e => rw [head_instr_ll]; cases ctx <;> exact h
  | dist d x => rw [head_instr_dist]; cases ctx <;> exact h

end Sys2Proof

namespace Sys2Proof.Machine

/-- Two reads answer alike: the same value or the same error kind, with related sources after it. -/
inductive Rd.Alike {σ τ α : Type} (R : σ → τ → Prop) : Rd σ α → Rd τ α → Prop
  | ok {a : α} {s : σ} {t : τ} (h : R s t) : Rd.Alike R (.ok a s) (.ok a t)
  | err {e : ErrKind} {s : σ} {t : τ} (h : R s t) : Rd.Alike R (.err e s) (.err e t)

/-- Related sources give the same next bit, and stay related; only the latches in `A` are known to keep the relation. -/
structure Simulates {σ τ : Type} (src : Source σ) (src' : Source τ) (A : Latch → Prop) (R : σ → τ → Prop) : Prop where
  next : ∀ s t, R s t → (src.next s = none ∧ src'.next t = none) ∨
    ∃ b s' t', src.next s = some (b, s') ∧ src'.next t = some (b, t') ∧ R s' t'
  align : ∀ s t, R s t → R (src.align s) (src'.align t)
  latch : ∀ l, A l → ∀ s t, R s t → R (src.latch l s) (src'.latch l t)

variable {σ τ α β : Type} {src : Source σ} {src' : Source τ} {A : Latch → Prop} {R : σ → τ → Prop}

theorem Rd.Alike.bind {r : Rd σ α} {r' : Rd τ α} {f : α → σ → Rd σ β} {g : α → τ → Rd τ β} (h : Rd.Alike R r r')
    (hf : ∀ a s t, R s t → Rd.Alike R (f a s) (g a t)) : Rd.Alike R (r.bind f) (r'.bind g) := by
  cases h with
  | ok h => exact hf _ _ _ h
  | err h => exact .err h

theorem Rd.Alike.after {r : Rd σ α} {r' : Rd τ α} (h : Rd.Alike R r r') : R r.after r'.after := by
  cases h with
  | ok h => exact h
  | err h => exact h

namespace Simulates

variable (hsim : Simulates src src' A R) {s : σ} {t : τ}
include hsim

theorem readBits (n : Nat) (o : Order) (h : R s t) :
    Rd.Alike R (Machine.readBits src n o s) (Machine.readBits src' n o t) := by
  induction n generalizing s t with
  | zero => simpa only [readBits_zero] using .ok h
  | succ n ih =>
    rcases hsim.next s t h with ⟨hs, ht⟩ | ⟨b, s', t', hs, ht, h'⟩
    · rw [readBits_succ_of_next_eq_none hs, readBits_succ_of_next_eq_none ht]
      exact .err h
    · rw [readBits_succ_of_next hs, readBits_succ_of_next ht]
      exact (ih h').bind fun _ _ _ h => .ok h

theorem decodeLoop (n : Nat) (cs : List Code) (v l : Nat) (h : R s t) :
    Rd.Alike R (Machine.decodeLoop src n cs v l s) (Machine.decodeLoop src' n cs v l t) := by
  induction n generalizing cs v l s t with
  | zero => exact .err h
  | succ n ih =>
    simp only [Machine.decodeLoop]
    generalize cs.filter (fun c => c.hasPrefix l v) = live
    split_ifs with hlive
    · exact .err h
    · cases live.find? fun c => c.isWord l v
      · have hbit := hsim.readBits 1 .msb h
        generalize Machine.readBits src 1 .msb s = r at hbit
        generalize Machine.readBits src' 1 .msb t = r' at hbit
        cases hbit with
        | ok h => exact ih _ _ _ h
        | err h => exact .err h
      · exact .ok h

theorem decodeSymbol (L : List Nat) (m : Nat) (h : R s t) :
    Rd.Alike R (Machine.decodeSymbol src L m s) (Machine.decodeSymbol src' L m t) :=
  hsim.decodeLoop _ _ _ _ h

theorem readClLens (cs : List Nat) (hA : ∀ c v, A (.clLen c v)) (h : R s t) :
    Rd.Alike R (Sys2Proof.readClLens src cs s) (Sys2Proof.readClLens src' cs t) := by
  induction cs generalizing s t with
  | nil => exact .ok h
  | cons c cs ih =>
    exact (hsim.readBits _ _ h).bind fun _ _ _ h => (ih (hsim.latch _ (hA _ _) _ _ h)).bind fun _ _ _ h => .ok h

/-- Related sources decode alike. -/
theorem decodeElement (ctx : Ctx) (hA : ∀ l, ctx.Latches l → A l) (h : R s t) :
    Rd.Alike R (Sys2Proof.decodeElement src ctx s) (Sys2Proof.decodeElement src' ctx t) := by
  cases ctx with
  | header =>
    exact (hsim.readBits _ _ h).bind fun _ _ _ h =>
      (hsim.readBits _ _ (hsim.latch _ (hA (.bfinal _) trivial) _ _ h)).bind fun _ _ _ h => .ok h
  | stored =>
    exact (hsim.readBits _ _ (hsim.align _ _ h)).bind fun _ _ _ h => (hsim.readBits _ _ h).bind fun _ _ _ h => .ok h
  | dynHeader =>
    exact (hsim.readBits _ _ h).bind fun _ _ _ h =>
      (hsim.readBits _ _ (hsim.latch _ (hA (.nLl _) trivial) _ _ h)).bind fun _ _ _ h =>
      (hsim.readBits _ _ (hsim.latch _ (hA (.nD _) trivial) _ _ h)).bind fun _ _ _ h =>
      (hsim.readClLens _ (fun _ _ => hA (.clLen _ _) trivial) (hsim.latch _ (hA .clearClLen trivial) _ _
        (hsim.latch _ (hA (.nCl _) trivial) _ _ h))).bind fun _ _ _ h => .ok h
  | codeLen L first =>
    refine (hsim.decodeSymbol _ _ h).bind fun c _ _ h => ?_
    split_ifs
    · exact .ok h
    · exact (hsim.readBits _ _ h).bind fun _ _ _ h => .ok h
  | litLen L => exact (hsim.decodeSymbol _ _ h).bind fun _ _ _ h => (hsim.readBits _ _ h).bind fun _ _ _ h => .ok h
  | distance L => exact (hsim.decodeSymbol _ _ h).bind fun _ _ _ h => (hsim.readBits _ _ h).bind fun _ _ _ h => .ok h

end Simulates

theorem length_of_readClLens_eq_ok {cs : List Nat} {vs : List (BitVec 3)} {s t : σ}
    (h : readClLens src cs s = .ok vs t) : vs.length = cs.length := by
  induction cs generalizing vs s with
  | nil => cases h; rfl
  | cons c cs ih =>
    simp only [readClLens, Rd.bind_eq_ok] at h
    obtain ⟨_, _, -, vs', _, hvs, hcons⟩ := h
    cases hcons
    simp [ih hvs]

/-- What is decoded has fields of the kind expected, a dynamic header a list of the length its count says. -/
theorem exists_head_of_decodeElement_eq_ok {ctx : Ctx} {i : Instr} {s t : σ} (h : decodeElement src ctx s = .ok i t) :
    ∃ f : Head, i = f.instr ∧ ctx.Reads f ∧
      ∀ hlit hdist hclen cll, f = .dyn hlit hdist hclen cll → cll.length = hclen.toNat + 4 := by
  cases ctx with
  | header =>
    simp only [decodeElement, decodeHeader, Rd.bind_eq_ok] at h
    obtain ⟨_, _, -, _, _, -, hok⟩ := h
    cases hok
    exact ⟨_, rfl, trivial, nofun⟩
  | stored =>
    simp only [decodeElement, decodeStored, Rd.bind_eq_ok] at h
    obtain ⟨_, _, -, _, _, -, hok⟩ := h
    cases hok
    exact ⟨_, rfl, trivial, nofun⟩
  | dynHeader =>
    simp only [decodeElement, decodeDynHeader, Rd.bind_eq_ok] at h
    obtain ⟨_, _, -, _, _, -, _, _, -, _, _, hcll, hok⟩ := h
    cases hok
    refine ⟨_, rfl, trivial, fun _ _ _ _ heq => ?_⟩
    cases heq
    rw [length_of_readClLens_eq_ok hcll, length_take_clOrder]
  | codeLen L first =>
    simp only [decodeElement, decodeCodeLen, Rd.bind_eq_ok] at h
    obtain ⟨_, _, -, hok⟩ := h
    split at hok
    · cases hok
      exact ⟨_, rfl, trivial, nofun⟩
    · obtain ⟨_, _, -, hok⟩ := Rd.bind_eq_ok.1 hok
      cases hok
      exact ⟨_, rfl, trivial, nofun⟩
  | litLen L =>
    simp only [decodeElement, decodeLitLen, Rd.bind_eq_ok] at h
    obtain ⟨_, _, -, _, _, -, hok⟩ := h
    cases hok
    exact ⟨_, rfl, trivial, nofun⟩
  | distance L =>
    simp only [decodeElement, decodeDistance, Rd.bind_eq_ok] at h
    obtain ⟨_, _, -, _, _, -, hok⟩ := h
    cases hok
    exact ⟨_, rfl, trivial, nofun⟩

/-- 42 R180: a context decodes elements of its own kind. -/
theorem reads_of_decodeElement_eq_ok {ctx : Ctx} {i : Instr} {s t : σ} (h : decodeElement src ctx s = .ok i t) :
    ctx.Reads i.head := by
  obtain ⟨f, rfl, hreads, -⟩ := exists_head_of_decodeElement_eq_ok h
  exact Ctx.Reads.head_instr hreads

/-- 30 R90: what is decoded is well formed. -/
theorem wf_of_decodeElement_eq_ok {ctx : Ctx} {i : Instr} {s t : σ} (h : decodeElement src ctx s = .ok i t) :
    i.wf = true := by
  obtain ⟨f, rfl, -, hdyn⟩ := exists_head_of_decodeElement_eq_ok h
  exact wf_instr hdyn

end Sys2Proof.Machine
end

section
/-! PROOFS. What an element that has been decoded has read: at least one bit (42_block_decoder R210). -/

namespace Sys2Proof.Machine

variable {σ : Type} {src : Source σ} {P : σ → Prop} {s t : σ}

/-- What holds after the first bit and is kept by the source holds after a field that has been read. -/
theorem Keeps.of_readBits_eq_ok (k : Keeps src P) {n v : Nat} {o : Order} (hn : n ≠ 0)
    (hfirst : ∀ b u, src.next s = some (b, u) → P u) (h : Machine.readBits src n o s = .ok v t) : P t := by
  obtain ⟨n, rfl⟩ := Nat.exists_eq_succ_of_ne_zero hn
  rcases hnext : src.next s with _ | ⟨b, u⟩
  · rw [readBits_succ_of_next_eq_none hnext] at h
    cases h
  · have hu := k.readBits n o u (hfirst b u hnext)
    rw [readBits_succ_of_next hnext, Rd.bind_eq_ok] at h
    obtain ⟨w, _, hw, hok⟩ := h
    cases hok
    rwa [hw] at hu

/-- 41 R160: no code word is empty, so a symbol that has been decoded has read a bit. -/
theorem Keeps.of_decodeSymbol_eq_ok (k : Keeps src P) {L : List Nat} {m x : Nat}
    (hfirst : ∀ b u, src.next s = some (b, u) → P u) (h : Machine.decodeSymbol src L m s = .ok x t) : P t := by
  rw [Machine.decodeSymbol, Machine.decodeLoop] at h
  generalize (codes L m).filter (fun c => c.hasPrefix 0 0) = live at h
  have hnone : live.find? (fun c => c.isWord 0 0) = none := List.find?_eq_none.2 fun c _ => by simp [Code.isWord]
  rw [hnone] at h
  split at h
  next => cases h
  next =>
    dsimp only at h
    split at h
    next b u hb =>
      have hu := k.decodeLoop (m + 1) live (0 * 2 + b) (0 + 1) u (k.of_readBits_eq_ok one_ne_zero hfirst hb)
      rwa [h] at hu
    next => cases h

theorem Keeps.of_bind_eq_ok {α β : Type} {r : Rd σ α} {f : α → σ → Rd σ β} {b : β} (h : r.bind f = .ok b t)
    (hr : ∀ a u, r = .ok a u → P u) (hf : ∀ a u, P u → P (f a u).after) : P t := by
  obtain ⟨a, u, ha, hb⟩ := Rd.bind_eq_ok.1 h
  simpa [hb] using hf a u (hr a u ha)

/-- What holds after the first bit, of the element or of the byte it is aligned to, and is kept by the source holds after an
element that has been decoded. -/
theorem Keeps.of_decodeElement_eq_ok (k : Keeps src P) {ctx : Ctx} {i : Instr}
    (hfirst : ∀ b u, src.next s = some (b, u) → P u) (halign : ∀ b u, src.next (src.align s) = some (b, u) → P u)
    (h : Sys2Proof.decodeElement src ctx s = .ok i t) : P t := by
  cases ctx with
  | header =>
    exact Keeps.of_bind_eq_ok h (fun _ _ => k.of_readBits_eq_ok one_ne_zero hfirst) fun _ _ hu =>
      Rd.after_bind (k.readBits _ _ _ (k.latch _ _ hu)) fun _ _ hu => hu
  | stored =>
    exact Keeps.of_bind_eq_ok h (fun _ _ => k.of_readBits_eq_ok (by decide) halign) fun _ _ hu =>
      Rd.after_bind (k.readBits _ _ _ hu) fun _ _ hu => hu
  | dynHeader =>
    exact Keeps.of_bind_eq_ok h (fun _ _ => k.of_readBits_eq_ok (by decide) hfirst) fun _ _ hu =>
      Rd.after_bind (k.readBits _ _ _ (k.latch _ _ hu)) fun _ _ hu =>
        Rd.after_bind (k.readBits _ _ _ (k.latch _ _ hu)) fun _ _ hu =>
          Rd.after_bind (k.readClLens _ _ (k.latch _ _ (k.latch _ _ hu))) fun _ _ hu => hu
  | codeLen L first =>
    refine Keeps.of_bind_eq_ok h (fun _ _ => k.of_decodeSymbol_eq_ok hfirst) fun c u hu => ?_
    split
    · exact hu
    · exact Rd.after_bind (k.readBits _ _ _ hu) fun _ _ hu => hu
  | litLen L =>
    exact Keeps.of_bind_eq_ok h (fun _ _ => k.of_decodeSymbol_eq_ok hfirst) fun _ _ hu =>
      Rd.after_bind (k.readBits _ _ _ hu) fun _ _ hu => hu
  | distance L =>
    exact Keeps.of_bind_eq_ok h (fun _ _ => k.of_decodeSymbol_eq_ok hfirst) fun _ _ hu =>
      Rd.after_bind (k.readBits _ _ _ hu) fun _ _ hu => hu

end Sys2Proof.Machine
end

section
/-! PROOFS. Fetching (30_encoding R98, 40_bitreader, 42_block_decoder R182, R194): what it writes, where the cursor goes, and that
it is the decoder on the stream bits not yet consumed. -/

namespace Sys2Proof.Machine

/-- `u` is `s` after an element of this context has been read, to its end or to a fault: the cursor has moved, and only the
registers that the context latches may have changed (log 6). -/
def Fetched (ctx : Ctx) (s u : State) : Prop :=
  ∃ c f a b n v, u = { s with cur := c, bfinal := f, nLl := a, nD := b, nCl := n, clLen := v } ∧
    (ctx ≠ .header → f = s.bfinal) ∧ (ctx ≠ .dynHeader → a = s.nLl ∧ b = s.nD ∧ n = s.nCl ∧ v = s.clLen)

variable {ctx : Ctx} {i : Instr} {e : ErrKind} {s t u : State}

theorem stateSource_next_eq_some {b : Bool} (h : stateSource.next s = some (b, t)) : ∃ c, t = { s with cur := c } := by
  simp only [stateSource, Option.map_eq_some_iff, Prod.mk.injEq] at h
  obtain ⟨r, -, -, rfl⟩ := h
  exact ⟨r.2, rfl⟩

theorem Fetched.refl (ctx : Ctx) (s : State) : Fetched ctx s s :=
  ⟨_, _, _, _, _, _, rfl, fun _ => rfl, fun _ => ⟨rfl, rfl, rfl, rfl⟩⟩

theorem Fetched.cur (h : Fetched ctx s u) (c : Cursor u.aw) : Fetched ctx s { u with cur := c } := by
  obtain ⟨d, f, a, b, n, v, rfl, hf, hregs⟩ := h
  exact ⟨c, f, a, b, n, v, rfl, hf, hregs⟩

theorem Fetched.latch (h : Fetched ctx s u) {l : Latch} (hl : ctx.Latches l) : Fetched ctx s (u.latch l) := by
  obtain ⟨c, f, a, b, n, v, rfl, hf, hregs⟩ := h
  cases ctx <;> cases l <;> cases hl
  case header.bfinal => exact ⟨c, _, a, b, n, v, rfl, fun hne => absurd rfl hne, hregs⟩
  -- The other latches are those of a dynamic header.
  all_goals exact ⟨c, f, _, _, _, _, rfl, hf, fun hne => absurd rfl hne⟩

/-- Reading an element keeps everything but the cursor and the registers its context latches. -/
theorem simulates_fetched (ctx : Ctx) (s : State) :
    Simulates stateSource stateSource ctx.Latches fun t u => t = u ∧ Fetched ctx s u where
  next t u h := by
    obtain ⟨rfl, hf⟩ := h
    rcases hnext : stateSource.next t with _ | ⟨b, w⟩
    · exact .inl ⟨rfl, rfl⟩
    · obtain ⟨c, rfl⟩ := stateSource_next_eq_some hnext
      exact .inr ⟨b, _, _, rfl, rfl, rfl, hf.cur c⟩
  align t u h := by
    obtain ⟨rfl, hf⟩ := h
    exact ⟨rfl, hf.cur _⟩
  latch l hl t u h := by
    obtain ⟨rfl, hf⟩ := h
    exact ⟨rfl, hf.latch hl⟩

theorem fetched_fetch (ctx : Ctx) (s : State) : Fetched ctx s (fetch ctx s).after :=
  ((simulates_fetched ctx s).decodeElement ctx (fun _ hl => hl) ⟨rfl, .refl ctx s⟩).after.2

theorem fetched_of_fetch_eq_ok (h : fetch ctx s = .ok i u) : Fetched ctx s u := by
  simpa [h] using fetched_fetch ctx s

theorem fetched_of_fetch_eq_err (h : fetch ctx s = .err e u) : Fetched ctx s u := by
  simpa [h] using fetched_fetch ctx s

/-- Where nothing is latched, reading moves the cursor only. -/
theorem Fetched.eq_with_cur (h : Fetched ctx s u) (hh : ctx ≠ .header) (hd : ctx ≠ .dynHeader) :
    ∃ c, u = { s with cur := c } := by
  obtain ⟨c, f, a, b, n, v, rfl, hf, hregs⟩ := h
  obtain rfl := hf hh
  obtain ⟨rfl, rfl, rfl, rfl⟩ := hregs hd
  exact ⟨c, rfl⟩

theorem Fetched.eq_of_header (h : Fetched .header s u) : ∃ c f, u = { s with cur := c, bfinal := f } := by
  obtain ⟨c, f, a, b, n, v, rfl, -, hregs⟩ := h
  obtain ⟨rfl, rfl, rfl, rfl⟩ := hregs nofun
  exact ⟨c, f, rfl⟩

theorem Fetched.eq_of_dynHeader (h : Fetched .dynHeader s u) :
    ∃ c a b n v, u = { s with cur := c, nLl := a, nD := b, nCl := n, clLen := v } := by
  obtain ⟨c, f, a, b, n, v, rfl, hf, -⟩ := h
  obtain rfl := hf nofun
  exact ⟨c, a, b, n, v, rfl⟩

/-- The cursor's invariants do not see the registers of a header. -/
theorem cursorInv_latch {l : Latch} (h : CursorInv s) : CursorInv (s.latch l) := by cases l <;> exact h

/-- Between a bit of the input and its end the source gives that bit, and at the end of the input it gives none. -/
theorem CursorInv.next_cases (h : CursorInv s) :
    (stateSource.next s = none ∧ s.cur.bitIndex = 8 * s.inLen.toNat) ∨
    ∃ c, stateSource.next s = some (streamBit s.imem s.cur.bitIndex, { s with cur := c }) ∧
      s.cur.bitIndex < 8 * s.inLen.toNat ∧ CursorInv { s with cur := c } ∧ c.bitIndex = s.cur.bitIndex + 1 := by
  obtain hlt | hend := h.bitIndex_le.lt_or_eq
  · obtain ⟨c, hnext, hc, hidx⟩ := h.givesStreamBit hlt
    exact .inr ⟨c, hnext, hlt, hc, hidx⟩
  · exact .inl ⟨h.next_eq_none hend, hend⟩

theorem CursorInv.bitIndex_align (h : CursorInv s) :
    (stateSource.align s).cur.bitIndex = 8 * s.cur.inPos.toNat ∧ s.cur.bitIndex ≤ 8 * s.cur.inPos.toNat := by
  have hidx := h.bitIndex_add_bitcnt
  exact ⟨Cursor.bitIndex_of_bitcnt_eq_zero rfl, by omega⟩

/-- 10 R22: reading keeps the cursor's invariants and never moves the cursor backward. -/
theorem keeps_cursor_from (k : Nat) : Keeps stateSource fun u => CursorInv u ∧ k ≤ u.cur.bitIndex where
  next u b v hnext h := by
    obtain ⟨hinv, hk⟩ := h
    rcases hinv.next_cases with ⟨hnone, -⟩ | ⟨c, hsome, -, hc, hidx⟩
    · cases hnone.symm.trans hnext
    · cases hsome.symm.trans hnext
      exact ⟨hc, by simp only [hidx]; omega⟩
  align u h := by
    obtain ⟨hinv, hk⟩ := h
    obtain ⟨hidx, hle⟩ := hinv.bitIndex_align
    exact ⟨hinv.align, by omega⟩
  latch l u h := ⟨cursorInv_latch h.1, (latch_bitIndex l u).symm ▸ h.2⟩

/-- 42 R210: an element that has been read has moved the cursor forward. -/
theorem CursorInv.of_fetch_eq_ok (h : CursorInv s) (hok : fetch ctx s = .ok i u) :
    CursorInv u ∧ s.cur.bitIndex < u.cur.bitIndex := by
  have hfirst : ∀ {v : State}, CursorInv v → s.cur.bitIndex ≤ v.cur.bitIndex → ∀ b w, stateSource.next v = some (b, w) →
      CursorInv w ∧ s.cur.bitIndex + 1 ≤ w.cur.bitIndex := fun hv hle b w hnext => by
    rcases hv.next_cases with ⟨hnone, -⟩ | ⟨c, hsome, -, hc, hidx⟩
    · cases hnone.symm.trans hnext
    · cases hsome.symm.trans hnext
      exact ⟨hc, by simp only [hidx]; omega⟩
  obtain ⟨hidx, hle⟩ := h.bitIndex_align
  exact (keeps_cursor_from (s.cur.bitIndex + 1)).of_decodeElement_eq_ok (hfirst h le_rfl)
    (hfirst h.align (by omega)) hok

theorem CursorInv.of_fetch_eq_err (h : CursorInv s) (herr : fetch ctx s = .err e u) :
    CursorInv u ∧ s.cur.bitIndex ≤ u.cur.bitIndex := by
  have hkeep := (keeps_cursor_from s.cur.bitIndex).decodeElement ctx s ⟨h, le_rfl⟩
  rwa [show decodeElement stateSource ctx s = .err e u from herr] at hkeep

/-- The stream bits not yet consumed, one by one. -/
theorem remaining_of_bitIndex_eq (h : s.cur.bitIndex = 8 * s.inLen.toNat) : s.remaining = [] := by
  simp [State.remaining, h]

theorem remaining_of_bitIndex_lt {c : Cursor s.aw} (hlt : s.cur.bitIndex < 8 * s.inLen.toNat)
    (hidx : c.bitIndex = s.cur.bitIndex + 1) :
    s.remaining = streamBit s.imem s.cur.bitIndex :: State.remaining { s with cur := c } := by
  have hlen : 8 * s.inLen.toNat - s.cur.bitIndex = 8 * s.inLen.toNat - (s.cur.bitIndex + 1) + 1 := by omega
  simp only [State.remaining, hidx, hlen, List.range_succ_eq_map, List.map_cons, List.map_map, Function.comp_def, Nat.add_zero]
  congr 2
  funext j
  congr 1
  omega

theorem length_remaining (s : State) : s.remaining.length = 8 * s.inLen.toNat - s.cur.bitIndex := by simp [State.remaining]

theorem drop_remaining {c : Cursor s.aw} {k : Nat} (hidx : c.bitIndex = s.cur.bitIndex + k) :
    s.remaining.drop k = State.remaining { s with cur := c } := by
  refine List.ext_getElem (by simp [length_remaining, hidx]; omega) fun j _ _ => ?_
  simp only [State.remaining, List.getElem_drop, List.getElem_map, List.getElem_range, hidx, Nat.add_assoc]

/-- The cursor and the list of the stream bits not yet consumed are sources that read alike. -/
theorem simulates_remaining : Simulates stateSource listSource (fun _ => True) fun s l => CursorInv s ∧ s.remaining = l where
  next s l h := by
    obtain ⟨hinv, rfl⟩ := h
    rcases hinv.next_cases with ⟨hnone, hend⟩ | ⟨c, hsome, hlt, hc, hidx⟩
    · exact .inl ⟨hnone, by rw [remaining_of_bitIndex_eq hend]; rfl⟩
    · exact .inr ⟨_, _, _, hsome, by rw [remaining_of_bitIndex_lt hlt hidx]; rfl, hc, rfl⟩
  align s l h := by
    obtain ⟨hinv, rfl⟩ := h
    obtain ⟨hidx, hle⟩ := hinv.bitIndex_align
    have hcnt : s.cur.bitcnt.toNat < 8 := s.cur.bitcnt.isLt
    have hsum := hinv.bitIndex_add_bitcnt
    have hmod : s.remaining.length % 8 = s.cur.bitcnt.toNat := by
      have := hinv.1
      rw [length_remaining]
      omega
    refine ⟨hinv.align, ?_⟩
    show State.remaining { s with cur := s.cur.align } = s.remaining.drop (s.remaining.length % 8)
    rw [hmod, drop_remaining]
    exact hidx.trans hsum.symm
  latch l _ s k h := by
    obtain ⟨hinv, rfl⟩ := h
    exact ⟨cursorInv_latch hinv, by cases l <;> rfl⟩

/-- Settles O21: the two sources read alike, so the decoder answers alike. -/
theorem fetchDecodesTheRemainingInput : Obligations.FetchDecodesTheRemainingInput := by
  intro ctx s h
  have halike := simulates_remaining.decodeElement ctx (fun _ _ => trivial) (s := s) ⟨h, rfl⟩
  constructor
  · intro i t hok
    rw [show decodeElement stateSource ctx s = .ok i t from hok] at halike
    generalize decodeElement listSource ctx s.remaining = r at halike ⊢
    cases halike with
    | ok h => exact ⟨h.1, by rw [h.2]⟩
  · intro e t herr
    rw [show decodeElement stateSource ctx s = .err e t from herr] at halike
    generalize decodeElement listSource ctx s.remaining = r at halike ⊢
    cases halike with
    | err h => exact ⟨h.1, by rw [h.2]⟩

/-- Settles O20: each context latches its own registers, and what it answers is built from fields. -/
theorem fetchWritesTheCursor : Obligations.FetchWritesTheCursor := by
  refine fun ctx s t => ⟨fun i hok => wf_of_decodeElement_eq_ok hok, fun hread => ?_⟩
  have hfetched : Fetched ctx s t := by
    rcases hread with ⟨i, hok⟩ | ⟨e, herr⟩
    · exact fetched_of_fetch_eq_ok hok
    · exact fetched_of_fetch_eq_err herr
  obtain ⟨c, f, a, b, n, v, rfl, hf, hregs⟩ := hfetched
  exact ⟨⟨c, rfl⟩, hf, hregs⟩

end Sys2Proof.Machine
end

section
/-! PROOFS. What one step can do, said once (42_block_decoder R180): the element that a state reads, its effect, the faults met
while reading, the second half of a match, and the table set-ups. -/

namespace Sys2Proof.Machine

/-- The kind of element that a busy state reads next. -/
inductive ReadsNext : State → Ctx → Prop
  | header {s : State} (h : s.fsm = .header) : ReadsNext s .header
  | stored {s : State} (h : s.fsm = .stored) : ReadsNext s .stored
  | dynHeader {s : State} (h : s.fsm = .dynHeader) : ReadsNext s .dynHeader
  | dynLengths {s : State} (h : s.fsm = .dynLengths) : ReadsNext s (codeLenCtx s)
  | symbol {s : State} (h : s.fsm = .symbol) : ReadsNext s (symbolCtx s)

/-- The symbols of match lengths (30 R103). -/
def IsLength (h : Head) : Prop := ∃ y e, h = .ll y e ∧ 257 ≤ y ∧ y ≤ 285

/-- The next states of a step. -/
inductive StepTo : State → State → Prop
  | rest {s : State} (h : s.fsm = .idle ∨ s.fsm = .done ∨ s.fsm = .error) : StepTo s s
  | fault {s u : State} {ctx : Ctx} {e : ErrKind} (hctx : ReadsNext s ctx) (herr : fetch ctx s = .err e u) :
      StepTo s (u.raise e)
  | element {s u t : State} {ctx : Ctx} {i : Instr} (hctx : ReadsNext s ctx) (hok : fetch ctx s = .ok i u)
      (he : Effect i.head u t) (hlen : ¬ IsLength i.head) : StepTo s t
  | length {s u t : State} {i : Instr} {y x : Nat} (hfsm : s.fsm = .symbol) (h0 : s.matchLen = 0)
      (hok : fetch (.litLen s.llLengths) s = .ok i u) (hi : i.head = .ll y x) (hlo : 257 ≤ y) (hhi : y ≤ 285)
      (hrest : StepTo { u with matchLen := BitVec.ofNat 9 (matchLength y x) } t) : StepTo s t
  | fixed {s : State} {a b : Trie} (hfsm : s.fsm = .fixed) (ha : buildTrie fixedLl Config.MAXBITS = some a)
      (hb : buildTrie fixedD Config.MAXBITS = some b) :
      StepTo s { s with nLl := 288, nD := 32, lens := fixedLens, llTrie := a, dTrie := b, fsm := .symbol }
  | buildLlFault {s : State} (hfsm : s.fsm = .dynBuild) (ho : overSubscribed s.llLengths Config.MAXBITS = true) :
      StepTo s (s.raise .overSubscribedHuffmanTable)
  | buildDFault {s : State} {a : Trie} (hfsm : s.fsm = .dynBuild) (ha : buildTrie s.llLengths Config.MAXBITS = some a)
      (ho : overSubscribed s.dLengths Config.MAXBITS = true) :
      StepTo s (State.raise { s with llTrie := a } .overSubscribedHuffmanTable)
  | built {s : State} {a b : Trie} (hfsm : s.fsm = .dynBuild) (ha : buildTrie s.llLengths Config.MAXBITS = some a)
      (hb : buildTrie s.dLengths Config.MAXBITS = some b) :
      StepTo s { s with llTrie := a, dTrie := b, fsm := .symbol }

variable {ctx : Ctx} {i j : Instr} {e : ErrKind} {s t u v : State}

theorem runElement_of_ok (hok : fetch ctx s = .ok i u) : runElement ctx s = exec i u := by rw [runElement, hok]

theorem runElement_of_err (herr : fetch ctx s = .err e u) : runElement ctx s = .next (u.raise e) := by
  rw [runElement, herr]
  rfl

theorem andThen_next_right (r : Result) : andThen r .next = r := by cases r <;> rfl

theorem symbolCtx_of_eq_zero (h : s.matchLen = 0) : symbolCtx s = .litLen s.llLengths := if_pos h

theorem symbolCtx_of_ne_zero (h : s.matchLen ≠ 0) : symbolCtx s = .distance s.dLengths := if_neg h

theorem step_of_rest (h : s.fsm = .idle ∨ s.fsm = .done ∨ s.fsm = .error) : step s = .next s := by
  rcases h with h | h | h <;> rw [step, cycle, h]

theorem step_of_symbol (h : s.fsm = .symbol) : step s = symbolStep s := by rw [step, cycle, h]

theorem step_of_fixed (h : s.fsm = .fixed) : step s = fixedSetup s := by rw [step, cycle, h]

/-- A state outside a match runs the element it reads. -/
theorem step_eq_runElement (hctx : ReadsNext s ctx) (hfsm : s.fsm ≠ .symbol) : step s = runElement ctx s := by
  cases hctx with
  | header h => rw [step, cycle, h]
  | stored h => rw [step, cycle, h]
  | dynHeader h => rw [step, cycle, h]
  | dynLengths h => exact step_of_dynLengths h
  | symbol h => exact absurd h hfsm

/-- A busy state runs the element it reads; only after a match length does more follow. -/
theorem step_eq_andThen (hctx : ReadsNext s ctx) : ∃ k : State → Result, step s = andThen (runElement ctx s) k ∧
    ∀ w : State, (s.matchLen = 0 → w.matchLen = 0) → k w = .next w := by
  by_cases hfsm : s.fsm = .symbol
  · have hsymbol : ctx = symbolCtx s := by cases hctx <;> simp_all
    exact ⟨fun t => if s.matchLen = 0 ∧ t.matchLen ≠ 0 then runElement (symbolCtx t) t else .next t,
      by rw [step_of_symbol hfsm, hsymbol]; rfl, fun w hw => if_neg fun h => h.2 (hw h.1)⟩
  · exact ⟨.next, by rw [step_eq_runElement hctx hfsm, andThen_next_right], fun _ _ => rfl⟩

/-- In the middle of a match the step runs the distance element alone. -/
theorem step_of_matchLen_ne_zero (hfsm : s.fsm = .symbol) (h : s.matchLen ≠ 0) :
    step s = runElement (.distance s.dLengths) s := by
  have hk : (fun t : State => if s.matchLen = 0 ∧ t.matchLen ≠ 0 then runElement (symbolCtx t) t else .next t) = .next :=
    funext fun t => if_neg fun hs => h hs.1
  rw [step_of_symbol hfsm, symbolStep, hk, andThen_next_right, symbolCtx_of_ne_zero h]

/-- 42 R204: after its length element a match goes on, in the same step, as a step from the state that holds the length. -/
theorem step_of_length (hfsm : s.fsm = .symbol) (h0 : s.matchLen = 0) (hok : fetch (.litLen s.llLengths) s = .ok i u)
    (hexec : exec i u = .next v) (hv : v.matchLen ≠ 0) (hvfsm : v.fsm = .symbol) : step s = step v := by
  rw [step_of_symbol hfsm, symbolStep, symbolCtx_of_eq_zero h0, runElement_of_ok hok, hexec, andThen_next,
    if_pos ⟨h0, hv⟩, symbolCtx_of_ne_zero hv, step_of_matchLen_ne_zero hvfsm hv]

/-- No element but a match length sets the match length. -/
theorem Effect.matchLen_eq {h : Head} (he : Effect h s t) (hlen : ¬ IsLength h) : t.matchLen = s.matchLen ∨ t.matchLen = 0 := by
  cases he
  case length y x hlo hhi => exact absurd ⟨_, _, rfl, hlo, hhi⟩ hlen
  all_goals simp

theorem matchLen_of_fetched (h : Fetched ctx s u) : u.matchLen = s.matchLen := by
  obtain ⟨_, _, _, _, _, _, rfl, -⟩ := h
  rfl

theorem fsm_of_fetched (h : Fetched ctx s u) : u.fsm = s.fsm := by
  obtain ⟨_, _, _, _, _, _, rfl, -⟩ := h
  rfl

/-- A match length held is not 0. -/
theorem ofNat_matchLength_ne_zero {y x : Nat} (hi : i.head = .ll y x) (hlo : 257 ≤ y) (hhi : y ≤ 285) :
    BitVec.ofNat 9 (matchLength y x) ≠ 0 := fun h => by
  obtain ⟨h3, h258⟩ := matchLength_range hlo hhi (bounds_of_head_eq_ll hi).2
  have hval := congrArg BitVec.toNat h
  rw [BitVec.toNat_ofNat, Nat.mod_eq_of_lt (by omega)] at hval
  exact absurd hval (by simp; omega)

/-- The length half of a match, up to the state from which the distance half goes on. -/
theorem step_eq_of_length {y x : Nat} (hfsm : s.fsm = .symbol) (h0 : s.matchLen = 0)
    (hok : fetch (.litLen s.llLengths) s = .ok i u) (hi : i.head = .ll y x) (hlo : 257 ≤ y) (hhi : y ≤ 285) :
    step s = step { u with matchLen := BitVec.ofNat 9 (matchLength y x) } :=
  step_of_length hfsm h0 hok (Effect.exec_eq (hi ▸ .length hlo hhi)) (ofNat_matchLength_ne_zero hi hlo hhi)
    ((fsm_of_fetched (fetched_of_fetch_eq_ok hok)).trans hfsm)

/-- 42 R191: the lengths of a fixed block, as the two tables see them. -/
theorem llLengths_fixed (s : State) : State.llLengths { s with nLl := 288, nD := 32, lens := fixedLens } = fixedLl := by
  show (fixedLens.toList.take (288#9).toNat).map BitVec.toNat = fixedLl
  decide +kernel

theorem dLengths_fixed (s : State) : State.dLengths { s with nLl := 288, nD := 32, lens := fixedLens } = fixedD := by
  show ((fixedLens.toList.drop (288#9).toNat).take (32#6).toNat).map BitVec.toNat = fixedD
  decide +kernel

theorem overSubscribed_of_buildTrie {L : List Nat} {m : Nat} {a : Trie} (h : buildTrie L m = some a) :
    overSubscribed L m = false := by
  by_contra ho
  simp [buildTrie, ho] at h

/-- `Build` of both tables goes on when both are accepted. -/
theorem buildBoth_of_some {a b : Trie} (ha : buildTrie s.llLengths Config.MAXBITS = some a)
    (hb : buildTrie s.dLengths Config.MAXBITS = some b) :
    buildBoth s = .next { s with llTrie := a, dTrie := b, fsm := .symbol } := by
  have hb' : buildTrie (State.dLengths { s with llTrie := a }) Config.MAXBITS = some b := hb
  simp only [buildBoth, build, ha, hb']

theorem buildBoth_of_dFault {a : Trie} (ha : buildTrie s.llLengths Config.MAXBITS = some a)
    (ho : overSubscribed s.dLengths Config.MAXBITS = true) :
    buildBoth s = .next (State.raise { s with llTrie := a } .overSubscribedHuffmanTable) := by
  have hb : buildTrie (State.dLengths { s with llTrie := a }) Config.MAXBITS = none := if_pos ho
  simp only [buildBoth, build, ha, hb, raised_eq]

theorem buildBoth_of_llFault (ho : overSubscribed s.llLengths Config.MAXBITS = true) :
    buildBoth s = .next (s.raise .overSubscribedHuffmanTable) := by
  have ha : buildTrie s.llLengths Config.MAXBITS = none := if_pos ho
  simp only [buildBoth, build, ha, raised_eq]

theorem StepTo.step_eq (h : StepTo s t) : step s = .next t := by
  induction h with
  | rest h => exact step_of_rest h
  | fault hctx herr =>
    obtain ⟨k, hstep, hk⟩ := step_eq_andThen hctx
    rw [hstep, runElement_of_err herr, andThen_next, hk _ fun _ => rfl]
  | element hctx hok he hlen =>
    obtain ⟨k, hstep, hk⟩ := step_eq_andThen hctx
    have hmatch := matchLen_of_fetched (fetched_of_fetch_eq_ok hok)
    rw [hstep, runElement_of_ok hok, he.exec_eq, andThen_next, hk _ fun h0 => ?_]
    rcases he.matchLen_eq hlen with h | h
    · rw [h, hmatch, h0]
    · exact h
  | length hfsm h0 hok hi hlo hhi _ ih => exact (step_eq_of_length hfsm h0 hok hi hlo hhi).trans ih
  | @fixed s a b hfsm ha hb =>
    rw [step_of_fixed hfsm, fixedSetup]
    refine buildBoth_of_some ?_ ?_
    · rw [llLengths_fixed, ha]
    · rw [dLengths_fixed, hb]
  | buildLlFault hfsm ho => rw [step_of_dynBuild hfsm, buildBoth_of_llFault ho]
  | buildDFault hfsm ha ho => rw [step_of_dynBuild hfsm, buildBoth_of_dFault ha ho]
  | built hfsm ha hb => rw [step_of_dynBuild hfsm, buildBoth_of_some ha hb]

/-- A state that reads an element other than a match length has a next state, if the element that is read has an effect. -/
theorem exists_stepTo_of_readsNext (hctx : ReadsNext s ctx) (hlen : ∀ i u, fetch ctx s = .ok i u → ¬ IsLength i.head)
    (heff : ∀ i u, fetch ctx s = .ok i u → ∃ t, Effect i.head u t) : ∃ t, StepTo s t := by
  rcases hfetch : fetch ctx s with ⟨i, u⟩ | ⟨e, u⟩
  · obtain ⟨t, he⟩ := heff i u hfetch
    exact ⟨t, .element hctx hfetch he (hlen i u hfetch)⟩
  · exact ⟨_, .fault hctx hfetch⟩

/-- Only a run of code lengths can have no effect. -/
theorem exists_effect_of_reads {h : Head} (hreads : ctx.Reads h) (hctx : ∀ L f, ctx ≠ .codeLen L f) (s : State) :
    ∃ t, Effect h s t := by
  refine (exists_effect h s).resolve_right ?_
  rintro ⟨c, e, rfl, -⟩
  cases ctx
  case codeLen L f => exact hctx L f rfl
  all_goals exact hreads

/-- Only a literal/length table has match lengths. -/
theorem not_isLength_of_reads {h : Head} (hreads : ctx.Reads h) (hctx : ∀ L, ctx ≠ .litLen L) : ¬ IsLength h := by
  rintro ⟨y, e, rfl, -, -⟩
  cases ctx
  case litLen L => exact hctx L rfl
  all_goals exact hreads

/-- Every state but one that reads code lengths has a next state. -/
theorem exists_stepTo_of_fsm_ne (hne : s.fsm ≠ .dynLengths) : ∃ t, StepTo s t := by
  have hreads : ∀ {s : State} {ctx : Ctx}, ReadsNext s ctx → (∀ L f, ctx ≠ .codeLen L f) → (∀ L, ctx ≠ .litLen L) →
      ∃ t, StepTo s t := fun hctx hcl hll =>
    exists_stepTo_of_readsNext hctx (fun i u hok => not_isLength_of_reads (reads_of_decodeElement_eq_ok hok) hll)
      fun i u hok => exists_effect_of_reads (reads_of_decodeElement_eq_ok hok) hcl u
  have hdist : ∀ {s : State}, s.fsm = .symbol → s.matchLen ≠ 0 → ∃ t, StepTo s t := fun hfsm h =>
    hreads (.symbol hfsm) (fun L f => by simp [symbolCtx_of_ne_zero h]) fun L => by simp [symbolCtx_of_ne_zero h]
  cases hfsm : s.fsm with
  | idle => exact ⟨s, .rest (.inl hfsm)⟩
  | done => exact ⟨s, .rest (.inr (.inl hfsm))⟩
  | error => exact ⟨s, .rest (.inr (.inr hfsm))⟩
  | header => exact hreads (.header hfsm) nofun nofun
  | stored => exact hreads (.stored hfsm) nofun nofun
  | dynHeader => exact hreads (.dynHeader hfsm) nofun nofun
  | dynLengths => exact absurd hfsm hne
  | fixed =>
    obtain ⟨a, ha⟩ := exists_buildTrie overSubscribed_fixedLl
    obtain ⟨b, hb⟩ := exists_buildTrie overSubscribed_fixedD
    exact ⟨_, .fixed hfsm ha hb⟩
  | dynBuild =>
    rcases buildBoth_cases s with ⟨ho, -⟩ | ⟨a, ha, ho, -⟩ | ⟨a, b, ha, hb, -⟩
    · exact ⟨_, .buildLlFault hfsm ho⟩
    · exact ⟨_, .buildDFault hfsm ha ho⟩
    · exact ⟨_, .built hfsm ha hb⟩
  | symbol =>
    by_cases h0 : s.matchLen = 0
    · by_cases hlen : ∃ i u, fetch (.litLen s.llLengths) s = .ok i u ∧ IsLength i.head
      · obtain ⟨i, u, hok, y, x, hi, hlo, hhi⟩ := hlen
        have hufsm := (fsm_of_fetched (fetched_of_fetch_eq_ok hok)).trans hfsm
        obtain ⟨t, ht⟩ := hdist (s := { u with matchLen := BitVec.ofNat 9 (matchLength y x) }) hufsm
          (ofNat_matchLength_ne_zero hi hlo hhi)
        exact ⟨t, .length hfsm h0 hok hi hlo hhi ht⟩
      · have hctx := symbolCtx_of_eq_zero h0 ▸ ReadsNext.symbol hfsm
        exact exists_stepTo_of_readsNext hctx (fun i u hok hl => hlen ⟨i, u, hok, hl⟩)
          fun i u hok => exists_effect_of_reads (reads_of_decodeElement_eq_ok hok) nofun u
    · exact hdist hfsm h0

/-- Every state has a next state, or its step is a run of code lengths outside `lens` (43 R227). -/
theorem exists_stepTo_or_fault (s : State) : (∃ t, StepTo s t) ∨ step s = .fault .lensWriteOutside := by
  by_cases hfsm : s.fsm = .dynLengths
  · by_cases heff : ∀ i u, fetch (codeLenCtx s) s = .ok i u → ∃ t, Effect i.head u t
    · exact .inl (exists_stepTo_of_readsNext (.dynLengths hfsm)
        (fun i u hok => not_isLength_of_reads (reads_of_decodeElement_eq_ok hok) nofun) heff)
    · push Not at heff
      obtain ⟨i, u, hok, hnone⟩ := heff
      refine .inr ?_
      rw [step_of_dynLengths hfsm, runElement_of_ok hok]
      exact (exists_effect_or_fault i u).resolve_left fun ⟨t, ht⟩ => hnone t ht
  · exact .inl (exists_stepTo_of_fsm_ne hfsm)

/-- The next states of a step are those listed. -/
theorem step_eq_next_iff : step s = .next t ↔ StepTo s t := by
  refine ⟨fun h => ?_, StepTo.step_eq⟩
  rcases exists_stepTo_or_fault s with ⟨u, hu⟩ | hfault
  · cases h.symm.trans hu.step_eq
    exact hu
  · cases h.symm.trans hfault

end Sys2Proof.Machine
end

section
/-! PROOFS. Fields at known places of the stream (20_memory R61, R62): bytes, and where the cursor stands. -/

namespace Sys2Proof.Machine

variable {s : State}

/-- A field read bit 0 first is its first part below its second. -/
theorem fieldValue_lsb_add (imem : Memory) (p n k : Nat) :
    fieldValue imem p (n + k) .lsb = fieldValue imem p n .lsb + 2 ^ n * fieldValue imem (p + n) k .lsb := by
  induction n generalizing p with
  | zero => simp [fieldValue]
  | succ n ih =>
    rw [show n + 1 + k = n + k + 1 by omega, fieldValue_succ, fieldValue_succ, ih, joinBit, joinBit,
      show p + 1 + n = p + (n + 1) by omega, pow_succ']
    ring

/-- 20 R61: the 8 bits of the stream from a byte boundary are the byte. -/
theorem fieldValue_byte (imem : Memory) (a : Nat) : fieldValue imem (8 * a) 8 .lsb = (Memory.read imem a).toNat := by
  have hbits : ∀ b : Byte, ((List.range 8).map fun i => (b.getLsbD i).toNat * 2 ^ i).sum = b.toNat := by decide +kernel
  rw [← hbits, fieldValue]
  refine congrArg List.sum (List.map_congr_left fun i hi => ?_)
  have hi : i < 8 := List.mem_range.1 hi
  rw [streamBit, show (8 * a + i) / 8 = a by omega, show (8 * a + i) % 8 = i by omega]

/-- 20 R62: a 16-bit field from a byte boundary has the byte at the lower address in its bits 7..0. -/
theorem ofNat_fieldValue_two_bytes (imem : Memory) (a : Nat) :
    BitVec.ofNat 16 (fieldValue imem (8 * a) 16 .lsb) = Memory.read imem (a + 1) ++ Memory.read imem a := by
  have hlo := (Memory.read imem a).isLt
  have hhi := (Memory.read imem (a + 1)).isLt
  have hsum : fieldValue imem (8 * a) 16 .lsb = (Memory.read imem a).toNat + 2 ^ 8 * (Memory.read imem (a + 1)).toNat := by
    rw [← fieldValue_byte, ← fieldValue_byte]
    exact fieldValue_lsb_add imem (8 * a) 8 8
  refine BitVec.eq_of_toNat_eq ?_
  rw [BitVec.toNat_append, ← Nat.shiftLeft_add_eq_or_of_lt hlo, Nat.shiftLeft_eq, BitVec.toNat_ofNat, hsum]
  omega

/-- A cursor at a byte boundary has no residual bits and stands at that byte. -/
theorem CursorInv.cur_eq_of_bitIndex (h : CursorInv s) {p : Addr s.aw} (hidx : s.cur.bitIndex = 8 * p.toNat) :
    s.cur = { inPos := p, bitbuf := 0, bitcnt := 0 } := by
  have hsum := h.bitIndex_add_bitcnt
  have hcnt : s.cur.bitcnt.toNat < 8 := s.cur.bitcnt.isLt
  have h0 : s.cur.bitcnt = 0 := BitVec.eq_of_toNat_eq (by simp; omega)
  have hpos : s.cur.inPos = p := BitVec.eq_of_toNat_eq (by omega)
  obtain ⟨-, hlt, -⟩ := h
  have hbuf : s.cur.bitbuf = 0 := by
    rw [h0] at hlt
    exact BitVec.eq_of_toNat_eq (by simpa using hlt)
  calc s.cur = Cursor.mk s.cur.inPos s.cur.bitbuf s.cur.bitcnt := rfl
    _ = { inPos := p, bitbuf := 0, bitcnt := 0 } := by rw [hpos, hbuf, h0]

/-- A 16-bit field from a byte boundary. -/
theorem CursorInv.readBits_two_bytes (h : CursorInv s) {a : Addr s.aw} (hidx : s.cur.bitIndex = 8 * a.toNat)
    (hin : a.toNat + 2 ≤ s.inLen.toNat) : ∃ v, readBits stateSource 16 .lsb s =
      .ok v { s with cur := { inPos := a + 2, bitbuf := 0, bitcnt := 0 } } ∧
        BitVec.ofNat 16 v = Memory.read s.imem (a.toNat + 1) ++ Memory.read s.imem a.toNat ∧
        CursorInv { s with cur := { inPos := a + 2, bitbuf := 0, bitcnt := 0 } } := by
  obtain ⟨c, hread, hc, hcidx⟩ := h.readBits_ok (n := 16) .lsb (by omega)
  have hadd : (a + 2 : Addr s.aw).toNat = a.toNat + 2 := addr_add_ofNat (b := s.inLen) (n := 2) (by omega) (by omega)
  have hcur : c = { inPos := a + 2, bitbuf := 0, bitcnt := 0 } := hc.cur_eq_of_bitIndex (by simp only [hadd]; omega)
  subst hcur
  exact ⟨_, hread, by rw [hidx, ofNat_fieldValue_two_bytes], hc⟩

theorem CursorInv.readBits_two_bytes_err (h : CursorInv s) {a : Addr s.aw} (hidx : s.cur.bitIndex = 8 * a.toNat)
    (hin : s.inLen.toNat < a.toNat + 2) : readBits stateSource 16 .lsb s = .err .unexpectedEndOfInput s.atEndOfInput :=
  h.readBits_err .lsb (by omega)

/-- Settles O24: after the pad the two fields are the bytes at `in_pos`, two by two. -/
theorem storedFieldsAreLittleEndian : Obligations.StoredFieldsAreLittleEndian := by
  intro s h a
  have halign : CursorInv { s with cur := s.cur.align } := h.align
  have hidx : s.cur.align.bitIndex = 8 * s.cur.inPos.toNat := Cursor.bitIndex_of_bitcnt_eq_zero rfl
  have hadd : s.inLen.toNat ≥ a + 2 → (s.cur.inPos + 2 : Addr s.aw).toNat = a + 2 := fun hle =>
    addr_add_ofNat (b := s.inLen) (n := 2) (by omega) (by omega)
  have hfetch : fetch .stored s = (readBits stateSource 16 .lsb { s with cur := s.cur.align }).bind fun len u =>
      (readBits stateSource 16 .lsb u).bind fun nlen v =>
        .ok (Head.instr (.stored (BitVec.ofNat 16 len) (BitVec.ofNat 16 nlen))) v := rfl
  refine ⟨fun hin => ?_, fun hend => ?_⟩
  · obtain ⟨len, hlen, hlenv, h1⟩ := halign.readBits_two_bytes hidx (Nat.le_trans (by omega) hin)
    obtain ⟨nlen, hnlen, hnlenv, -⟩ := h1.readBits_two_bytes (Cursor.bitIndex_of_bitcnt_eq_zero rfl)
      (by simp only [hadd (by omega)]; exact hin)
    simp only [hadd (Nat.le_trans (by omega) hin)] at hlenv hnlenv
    have hfour : s.cur.inPos + 2 + 2 = s.cur.inPos + 4 :=
      (BitVec.add_assoc ..).trans (congrArg (s.cur.inPos + ·) (BitVec.ofNat_add 2 2).symm)
    rw [hfetch, hlen, Rd.bind_ok, hnlen, Rd.bind_ok, hlenv, hnlenv, hfour]
    rfl
  · rw [hfetch]
    obtain hlt | hle := Nat.lt_or_ge s.inLen.toNat (a + 2)
    · rw [halign.readBits_two_bytes_err hidx hlt]
      rfl
    · obtain ⟨len, hlen, -, h1⟩ := halign.readBits_two_bytes hidx hle
      rw [hlen, Rd.bind_ok, h1.readBits_two_bytes_err (Cursor.bitIndex_of_bitcnt_eq_zero rfl)
        (by simp only [hadd hle]; omega)]
      rfl

end Sys2Proof.Machine
end

section
/-! PROOFS. The statements of 42_block_decoder on single steps, and of 60_exceptions and 10_state on faults and codes. -/

namespace Sys2Proof.Machine

/-- What a header field leads to, read at a place where all of it is there. -/
theorem step_header_of_fetch {s u : State} {ty : BitVec 2} {f : BitVec 1} (hfsm : s.fsm = .header)
    (hok : fetch .header s = .ok (Head.instr (.header ty f)) u) :
    step s = if ty = 3 then .next (State.raise { u with bfinal := f, btype := ty } .invalidBlockType)
      else .next { u with bfinal := f, btype := ty, fsm := headerNext ty } := by
  rw [step_eq_runElement (.header hfsm) (by simp [hfsm]), runElement_of_ok hok, exec_eq_execHead, head_instr_header]
  rfl

/-- Settles O22: one bit, then two, at the cursor; the latch of the first stays when the second read ends the input. -/
theorem headerStep : Obligations.HeaderStep := by
  intro s hfsm h p f ty
  have hstep := step_eq_runElement (.header hfsm) (by simp [hfsm])
  have hsecond : ∀ c : Cursor s.aw, CursorInv { s with cur := c } → CursorInv { s with cur := c, bfinal := f } := fun _ h => h
  refine ⟨fun hin => ?_, fun hend => ?_, fun hin hend => ?_⟩
  · obtain ⟨c, hread, hc, hidx⟩ := h.readBits_ok (n := 1) .lsb (by omega)
    obtain ⟨d, hread', hd, hidx'⟩ := (hsecond c hc).readBits_ok (n := 2) .lsb (by simp only [hidx]; omega)
    have hok : fetch .header s = .ok (Head.instr (.header ty f)) { s with cur := d, bfinal := f } := by
      show decodeHeader stateSource s = _
      rw [decodeHeader, hread, Rd.bind_ok]
      show (readBits stateSource 2 .lsb { s with cur := c, bfinal := f }).bind _ = _
      rw [hread', Rd.bind_ok]
      simp only [hidx]
      rfl
    have hnext := step_header_of_fetch hfsm hok
    refine ⟨d, by rw [hidx', hidx], hd, fun h0 => ?_, fun h1 => ?_, fun h2 => ?_, fun h3 => ?_⟩
    · rw [hnext, h0]; rfl
    · rw [hnext, h1]; rfl
    · rw [hnext, h2]; rfl
    · rw [hnext, h3]; rfl
  · have herr : fetch .header s = .err .unexpectedEndOfInput s.atEndOfInput := by
      show decodeHeader stateSource s = _
      rw [decodeHeader, h.readBits_err .lsb (by omega), Rd.bind_err]
    rw [hstep, runElement_of_err herr]
  · obtain ⟨c, hread, hc, hidx⟩ := h.readBits_ok (n := 1) .lsb (by omega)
    have herr : fetch .header s = .err .unexpectedEndOfInput { s.atEndOfInput with bfinal := f } := by
      show decodeHeader stateSource s = _
      rw [decodeHeader, hread, Rd.bind_ok]
      show (readBits stateSource 2 .lsb { s with cur := c, bfinal := f }).bind _ = _
      rw [(hsecond c hc).readBits_err .lsb (by simp only [hidx]; omega)]
      rfl
    rw [hstep, runElement_of_err herr]

/-- Settles O19: what a busy state reads is what it executes, by the equations of `step` for each control state. -/
theorem stepRunsTheDecodedElement : Obligations.StepRunsTheDecodedElement := by
  intro s t i e
  have hplain : ∀ {ctx : Ctx}, ReadsNext s ctx → s.fsm ≠ .symbol →
      (fetch ctx s = .ok i t → step s = exec i t) ∧ (fetch ctx s = .err e t → step s = .next (t.raise e)) :=
    fun hctx hfsm => ⟨fun hok => (step_eq_runElement hctx hfsm).trans (runElement_of_ok hok),
      fun herr => (step_eq_runElement hctx hfsm).trans (runElement_of_err herr)⟩
  refine ⟨fun h => hplain (.header h) (by simp [h]), fun h => hplain (.stored h) (by simp [h]),
    fun h => hplain (.dynHeader h) (by simp [h]), fun h => hplain (.dynLengths h) (by simp [h]), fun hfsm h0 => ?_⟩
  have hctx := ReadsNext.symbol hfsm
  rw [symbolCtx_of_eq_zero h0] at hctx
  obtain ⟨k, hstep, hk⟩ := step_eq_andThen hctx
  refine ⟨fun herr => ?_, fun hok u hexec => ⟨fun hu => ?_, fun hu v j g => ?_⟩⟩
  · rw [hstep, runElement_of_err herr, andThen_next, hk _ fun _ => rfl]
  · rw [hstep, runElement_of_ok hok, hexec, andThen_next, hk _ fun _ => hu]
  · have hmatch : step s = runElement (.distance u.dLengths) u := by
      rw [step_of_symbol hfsm, symbolStep, symbolCtx_of_eq_zero h0, runElement_of_ok hok, hexec, andThen_next,
        if_pos ⟨h0, hu⟩, symbolCtx_of_ne_zero hu]
    exact ⟨fun hok => hmatch.trans (runElement_of_ok hok), fun herr => hmatch.trans (runElement_of_err herr)⟩

/-- Settles O27: both fixed tables are accepted, and `lens` holds them one after the other. -/
theorem fixedSetupStep : Obligations.FixedSetupStep := by
  intro s hfsm
  obtain ⟨a, ha⟩ := exists_buildTrie overSubscribed_fixedLl
  obtain ⟨b, hb⟩ := exists_buildTrie overSubscribed_fixedD
  exact ⟨_, a, b, (StepTo.fixed hfsm ha hb).step_eq, rfl, llLengths_fixed s, dLengths_fixed s, ha, hb⟩

/-- Settles O28: the three ways the set-up goes are three of the next states of a step. -/
theorem dynamicBuildStep : Obligations.DynamicBuildStep := by
  refine fun s hfsm => ⟨fun ho => (StepTo.buildLlFault hfsm ho).step_eq, fun ho => ?_⟩
  obtain ⟨a, ha⟩ := exists_buildTrie ho
  refine ⟨a, ha, fun ho' => (StepTo.buildDFault hfsm ha ho').step_eq, fun ho' => ?_⟩
  obtain ⟨b, hb⟩ := exists_buildTrie ho'
  exact ⟨b, hb, (StepTo.built hfsm ha hb).step_eq⟩

/-- Settles O39: a state that rests takes no step. -/
theorem raiseStopsTheEngine : Obligations.RaiseStopsTheEngine :=
  ⟨fun e s => ⟨s.raise e, 0, rfl, rfl, rfl, rfl, rfl, step_of_rest (.inr (.inr rfl))⟩, fun _ => step_of_rest⟩

/-- No error kind has the code 0 of none. -/
theorem errCode_ne_zero (e : ErrKind) : errCode e ≠ 0#4 := by cases e <;> decide

/-- Settles O42: by the control state, and every kind has a code other than 0. -/
theorem statusAndErrorCodes : Obligations.StatusAndErrorCodes := by
  refine ⟨rfl, rfl, rfl, rfl, rfl, rfl, rfl, rfl, rfl, rfl, fun _ => rfl, fun s => ?_⟩
  have herr : ErrInv s → (errValue s.err = 0 ↔ s.fsm ≠ .error) := fun h => by
    rw [ErrInv] at h
    rcases hs : s.err with _ | e
    · simpa [hs, errValue] using h
    · simpa [hs, errValue, errCode_ne_zero] using h
  refine ⟨?_, ?_, ?_, ?_, ?_, ?_, ?_, herr⟩
  all_goals cases hfsm : s.fsm <;> simp [State.busy, State.done, State.error, hfsm, statusOf]

end Sys2Proof.Machine
end

section
/-! PROOFS. The host's operations (45_host_interface R250 to R252, 10_state R45, R46, 70 R312): what each can do, said once, and
the statements about registers, START, the memories and reset. -/

namespace Sys2Proof.Machine

variable {s t : State}

/-- The next states of the host's operations. -/
inductive HostEffect (s : State) : State → Prop
  | unchanged : HostEffect s s
  | free : HostEffect s { s with draws := s.draws + 1 }
  | start : HostEffect s s.start
  | inLen (v : Nat) (p : Platform) (h : s.busy = false) : HostEffect s { s with inLen := BitVec.ofNat s.aw v, platform := p }
  | outCap (v : Nat) (p : Platform) (h : s.busy = false) : HostEffect s { s with outCap := BitVec.ofNat s.aw v, platform := p }
  | imem (bytes : List Byte) (p : Platform) (h : s.busy = false) :
      HostEffect s { s with imem := Memory.writeBytes s.imem 0 bytes, platform := p }
  | omem (bytes : List Byte) (p : Platform) (h : s.busy = false) :
      HostEffect s { s with omem := Memory.writeBytes [] 0 bytes, platform := p }
  | reset : HostEffect s (hostReset s)

/-- 45 R250: a read changes nothing, but for the draw of a free value. -/
theorem hostRead_cases (k : Nat) (s : State) : (hostRead k s).2 = s ∨ (hostRead k s).2 = { s with draws := s.draws + 1 } := by
  have hpos : ∀ v, (readPosition s v).2 = s ∨ (readPosition s v).2 = { s with draws := s.draws + 1 } := fun v => by
    cases hb : s.busy <;> simp [readPosition, hb]
  match k with
  | 0 | 1 | 2 | 3 | 4 => exact .inl rfl
  | 5 | 6 => exact hpos _
  | _ + 7 => exact .inl rfl

theorem hostEffect_of_hostStart (h : hostStart s = .next t) : HostEffect s t := by
  simp only [hostStart] at h
  split_ifs at h <;> cases h
  · exact .unchanged
  · exact .start

theorem hostEffect_of_hostWrite {k v : Nat} (h : hostWrite k v s = .next t) : HostEffect s t := by
  match k, h with
  | 0, h =>
    simp only [hostWrite] at h
    split_ifs at h with hv
    · exact hostEffect_of_hostStart h
    · cases h; exact .unchanged
  | 3, h =>
    cases h
    cases hb : s.busy
    · rw [writeInLen, hb]; exact .inLen v _ hb
    · rw [writeInLen, hb]; exact .unchanged
  | 4, h =>
    cases h
    cases hb : s.busy
    · rw [writeOutCap, hb]; exact .outCap v _ hb
    · rw [writeOutCap, hb]; exact .unchanged
  | 1, h | 2, h | _ + 5, h => cases h; exact .unchanged

/-- What the host's operations can do. -/
theorem hostEffect_of_hostStep {op : HostOp} (h : hostStep op s = .next t) : HostEffect s t := by
  cases op with
  | read k =>
    cases h
    obtain hk | hk := hostRead_cases k s
    · rw [hk]; exact .unchanged
    · rw [hk]; exact .free
  | write k v => exact hostEffect_of_hostWrite h
  | loadImem bytes =>
    simp only [hostStep, hostLoadImem] at h
    split_ifs at h with hb hlen
    cases h
    exact .imem bytes _ (by simpa using hb)
  | provideOmem bytes =>
    simp only [hostStep, hostProvideOmem] at h
    split_ifs at h with hb hlen
    cases h
    exact .omem bytes _ (by simpa using hb)
  | readOmem a =>
    simp only [hostStep] at h
    cases hread : hostReadOmem a s <;> rw [hread] at h <;> cases h
    exact .unchanged
  | reset => cases h; exact .reset

theorem HostEffect.aw_eq (h : HostEffect s t) : t.aw = s.aw := by cases h <;> rfl

/-- A state outside every block decoder's set-up and symbols meets the clauses on tables. -/
theorem tablesInv_of_fsm (hl : s.fsm ≠ .dynLengths) (hb : s.fsm ≠ .dynBuild) (hs : s.fsm ≠ .symbol) : TablesInv s :=
  ⟨fun h => absurd h hl, fun h => absurd h hb, fun h => absurd h hs⟩

theorem cursorInv_of_zero (h : s.cur = Cursor.zero) : CursorInv s := by
  rw [CursorInv, h]
  exact ⟨Nat.zero_le _, Nat.one_pos, fun h0 => absurd rfl h0⟩

theorem errInv_of_none (herr : s.err = none) (hfsm : s.fsm ≠ .error) : ErrInv s := by simp [ErrInv, herr, hfsm]

/-- 10 R46: START begins with every invariant of a run. -/
theorem engineInv_start (hw : WidthInv s) (hm : MemoryInv s) : EngineInv s.start :=
  ⟨hw, cursorInv_of_zero rfl, Nat.zero_le _, hm, errInv_of_none rfl nofun,
    tablesInv_of_fsm (s := s.start) nofun nofun nofun, rfl⟩

theorem engineInv_resetAt {aw : Nat} (h : 17 ≤ aw) : EngineInv (State.resetAt aw) :=
  ⟨h, cursorInv_of_zero rfl, Nat.zero_le _, ⟨rfl, rfl⟩, errInv_of_none rfl nofun,
    tablesInv_of_fsm (s := State.resetAt aw) nofun nofun nofun, rfl⟩

theorem EngineInv.systemInv (h : EngineInv s) : SystemInv s := by
  obtain ⟨hw, hc, ho, hm, he, ht, hz⟩ := h
  exact ⟨hw, hm, he, ht, hz, fun _ => ⟨hc, ho⟩⟩

/-- Outside a run the cursor and the output are not bound by the lengths, which the host may then change. -/
theorem SystemInv.of_not_busy (h : SystemInv s) (hb : t.busy = false) (hw : t.aw = s.aw) (hm : MemoryInv t) (hfsm : t.fsm = s.fsm)
    (herr : t.err = s.err) (ht : TablesInv s → TablesInv t) (hz : t.matchLen = s.matchLen) : SystemInv t := by
  obtain ⟨hw', -, he, ht', hz', -⟩ := h
  exact ⟨by rwa [WidthInv, hw], hm, by rwa [ErrInv, hfsm, herr], ht ht', by rwa [MatchInv, hz], fun h => by simp [hb] at h⟩

theorem memoryInv_hostReset (h : MemoryInv s) : MemoryInv (hostReset s) := by
  obtain ⟨hi, ho⟩ := h
  refine ⟨hi, ?_⟩
  show Memory.wf (omemAfterReset s) = true
  rw [omemAfterReset]
  split_ifs
  · exact Memory.wf_writeBytes _ _ _ ho
  · exact ho

/-- Whatever the host does, the invariants stay. -/
theorem HostEffect.systemInv (h : HostEffect s t) (hinv : SystemInv s) : SystemInv t := by
  obtain ⟨hw, hm, -, -, -, -⟩ := id hinv
  cases h with
  | unchanged => exact hinv
  | free => exact hinv
  | start => exact (engineInv_start hw hm).systemInv
  | inLen v p hb => exact hinv.of_not_busy hb rfl hm rfl rfl id rfl
  | outCap v p hb => exact hinv.of_not_busy hb rfl hm rfl rfl id rfl
  | imem bytes p hb => exact hinv.of_not_busy hb rfl ⟨Memory.wf_writeBytes _ _ _ hm.1, hm.2⟩ rfl rfl id rfl
  | omem bytes p hb => exact hinv.of_not_busy hb rfl ⟨hm.1, Memory.wf_writeBytes _ _ _ rfl⟩ rfl rfl id rfl
  | reset =>
    exact ⟨hw, memoryInv_hostReset hm, errInv_of_none rfl nofun,
      tablesInv_of_fsm (s := hostReset s) nofun nofun nofun, rfl, nofun⟩

/-- Settles O44: both are at stream bit 0 with no output, no error and no tables in use. -/
theorem resetAndStartHaveTheInvariants : Obligations.ResetAndStartHaveTheInvariants :=
  have hreset : ∀ aw, 17 ≤ aw → EngineInv (State.resetAt aw) ∧ SystemInv (State.resetAt aw) := fun _ h =>
    ⟨engineInv_resetAt h, (engineInv_resetAt h).systemInv⟩
  ⟨(hreset 32 (by decide)).1, (hreset 32 (by decide)).2, hreset, fun _ => engineInv_start⟩

/-- A value of a status register fits a register of the engine's width. -/
theorem toNat_setWidth_of_widthInv {n : Nat} (h : WidthInv s) (hn : n ≤ 17) (v : BitVec n) : (v.setWidth s.aw).toNat = v.toNat := by
  have hw : 17 ≤ s.aw := h
  rw [BitVec.toNat_setWidth, Nat.mod_eq_of_lt (v.isLt.trans_le (Nat.pow_le_pow_right (by omega) (hn.trans hw)))]

/-- Settles O55: the codes fit a register of at least 17 bits, and a read changes the draws at most. -/
theorem registerReads : Obligations.RegisterReads := by
  refine fun s h => ⟨fun k hk => ?_, ⟨toNat_setWidth_of_widthInv h (by omega) _, rfl⟩,
    ⟨toNat_setWidth_of_widthInv h (by omega) _, rfl⟩, rfl, rfl, fun hb => ?_, fun k => ?_⟩
  · obtain rfl | hk := hk
    · rfl
    · obtain ⟨n, rfl⟩ := Nat.exists_eq_add_of_le' hk
      rfl
  · simp [hostRead, readPosition, hb]
  · obtain hk | hk := hostRead_cases k s <;> rw [hk]

/-- Settles O56: index by index. -/
theorem registerWrites : Obligations.RegisterWrites := by
  refine fun s k v => ⟨fun hb => ?_, fun hb => ?_, fun hb => ?_, fun h0 h3 h4 => ?_, fun hv => ?_⟩
  · match k with
    | 0 => simp [hostWrite, hostStart, hb]
    | 3 => simp [hostWrite, writeInLen, hb]
    | 4 => simp [hostWrite, writeOutCap, hb]
    | 1 | 2 | _ + 5 => rfl
  · simp [hostWrite, writeInLen, hb]
  · simp [hostWrite, writeOutCap, hb]
  · match k with
    | 1 | 2 | _ + 5 => rfl
  · simp [hostWrite, Nat.testBit_zero, hv]

/-- Settles O57: the guards of the launch in their order. -/
theorem startBeginsARun : Obligations.StartBeginsARun := by
  intro s v hb hv
  have hstart : hostWrite 0 v s = hostStart s := by simp [hostWrite, Nat.testBit_zero, hv]
  rw [hstart, hostStart, if_neg (by simp [hb])]
  refine ⟨fun hi ho hin hout => ?_, fun h => ?_, fun hi ho hin => ?_, fun hi ho hin hout => ?_⟩
  · rw [if_neg (by simp [hi, ho]), if_neg (by omega), if_neg (by omega)]
    rfl
  · rw [if_pos (Bool.and_eq_false_iff.2 h)]
  · rw [if_neg (by simp [hi, ho]), if_pos hin]
  · rw [if_neg (by simp [hi, ho]), if_neg (by omega), if_pos hout]

/-- What stands in a memory after bytes were written from address 0. -/
theorem read_writeBytes_zero (m : Memory) (bytes : List Byte) (a : Nat) :
    Memory.read (Memory.writeBytes m 0 bytes) a = if a < bytes.length then bytes.getD a 0 else Memory.read m a := by
  rw [Memory.read_writeBytes]
  by_cases ha : a < bytes.length
  · simp [ha]
  · simp [ha]

/-- Settles O58: by what stands in a memory after bytes were written from address 0. -/
theorem hostMemoryAccess : Obligations.HostMemoryAccess := by
  intro s bytes hlen
  refine ⟨fun hb => ⟨by simp [hostLoadImem, hb], by simp [hostProvideOmem, hb], fun a => by simp [hostReadOmem, hb]⟩,
    fun hb => ⟨⟨{ s with imem := Memory.writeBytes s.imem 0 bytes,
                         platform := { s.platform with imemSize := max s.platform.imemSize bytes.length } }, ?_, rfl,
                fun a => read_writeBytes_zero s.imem bytes a⟩,
               ⟨{ s with omem := Memory.writeBytes [] 0 bytes, platform := { s.platform with omemSize := bytes.length } }, ?_,
                rfl, fun a ha => ?_⟩⟩⟩
  · rw [hostLoadImem, if_neg (by simp [hb]), if_neg (by omega)]
  · rw [hostProvideOmem, if_neg (by simp [hb]), if_neg (by omega)]
  · rw [hostReadOmem, if_neg (by simpa [State.busy] using hb), if_neg (by simpa using ha), read_writeBytes_zero, if_pos ha]

theorem length_freeBytes (n d : Nat) : (freeBytes n d).length = n := by
  induction n generalizing d with
  | zero => rfl
  | succ n ih => simp [freeBytes, ih]

/-- Settles O59: an interrupted run could have written below `OUT_CAP` only. -/
theorem hardwareReset : Obligations.HardwareReset := by
  refine fun s => ⟨rfl, rfl, rfl, rfl, rfl, rfl, rfl, rfl, fun hb => ?_, fun a ha => ?_⟩
  · show omemAfterReset s = s.omem
    simp [omemAfterReset, hb]
  · show Memory.read (omemAfterReset s) a = _
    rw [omemAfterReset]
    split_ifs
    · rw [read_writeBytes_zero, length_freeBytes, if_neg (by omega)]
    · rfl

/-- Settles O60: the values of `State.resetAt`. -/
theorem resetState : Obligations.ResetState := by
  rintro s (rfl | ⟨aw, rfl⟩)
  · exact ⟨rfl, rfl, rfl, rfl, rfl, rfl, rfl, rfl, rfl, rfl⟩
  · exact ⟨rfl, rfl, rfl, rfl, rfl, rfl, rfl, rfl, rfl, rfl⟩

end Sys2Proof.Machine
end

section
/-! PROOFS. What no step writes, and where output goes (10_state R20, R21, R23, R31, 60_exceptions R283). -/

namespace Sys2Proof.Machine

variable {ctx : Ctx} {h : Head} {s t u : State}

/-- The width, the input and the length registers are as before; output has been appended, within `OUT_CAP`. -/
structure Appended (s t : State) : Prop where
  aw : t.aw = s.aw
  imem : t.imem = s.imem
  inLen : t.inLen.toNat = s.inLen.toNat
  outCap : t.outCap.toNat = s.outCap.toNat
  le : s.outPos.toNat ≤ t.outPos.toNat
  bound : t.outPos.toNat ≠ s.outPos.toNat → t.outPos.toNat ≤ s.outCap.toNat
  omem : ∀ a, a < s.outPos.toNat ∨ t.outPos.toNat ≤ a → Memory.read t.omem a = Memory.read s.omem a

theorem Appended.refl (s : State) : Appended s s :=
  ⟨rfl, rfl, rfl, rfl, le_rfl, fun hne => absurd rfl hne, fun _ _ => rfl⟩

theorem Appended.trans (h : Appended s u) (h' : Appended u t) : Appended s t := by
  have hle := h.le
  have hle' := h'.le
  have hcap := h.outCap
  refine ⟨h'.aw.trans h.aw, h'.imem.trans h.imem, h'.inLen.trans h.inLen, h'.outCap.trans h.outCap, hle.trans hle',
    fun hne => ?_, fun a ha => ?_⟩
  · have hb := h.bound
    have hb' := h'.bound
    omega
  · rw [h'.omem a (by omega), h.omem a (by omega)]

/-- A place in a memory, moved by as much as there is room for. -/
theorem toNat_add_of_room {aw n : Nat} {a b : Addr aw} (h : n ≤ b.toNat - a.toNat) :
    (a + BitVec.ofNat aw n).toNat = a.toNat + n := by
  obtain hab | hab := Nat.le_total a.toNat b.toNat
  · exact addr_add_ofNat h hab
  · obtain rfl : n = 0 := by omega
    simp

/-- `n` bytes of output, from `out_pos` on and within `OUT_CAP`. -/
theorem appended_of_write {n : Nat} {c : Cursor s.aw} {m : Memory} {f : Fsm} {k : BitVec 9}
    (hroom : n ≤ s.outCap.toNat - s.outPos.toNat)
    (hread : ∀ a, a < s.outPos.toNat ∨ s.outPos.toNat + n ≤ a → Memory.read m a = Memory.read s.omem a) :
    Appended s { s with omem := m, cur := c, outPos := s.outPos + BitVec.ofNat s.aw n, fsm := f, matchLen := k } := by
  have hpos := toNat_add_of_room hroom
  refine ⟨rfl, rfl, rfl, rfl, ?_, ?_, ?_⟩
  · show _ ≤ (s.outPos + BitVec.ofNat s.aw n).toNat
    omega
  · show (s.outPos + BitVec.ofNat s.aw n).toNat ≠ _ → (s.outPos + BitVec.ofNat s.aw n).toNat ≤ _
    omega
  · show ∀ a, _ ∨ (s.outPos + BitVec.ofNat s.aw n).toNat ≤ a → _
    rwa [hpos]

theorem Fetched.appended (h : Fetched ctx s u) : Appended s u := by
  obtain ⟨_, _, _, _, _, _, rfl, -⟩ := h
  exact ⟨rfl, rfl, rfl, rfl, le_rfl, fun hne => absurd rfl hne, fun _ _ => rfl⟩

theorem appended_raise (s : State) (e : ErrKind) : Appended s (s.raise e) :=
  ⟨rfl, rfl, rfl, rfl, le_rfl, fun hne => absurd rfl hne, fun _ _ => rfl⟩

/-- A dynamic header latches its own registers only. -/
theorem exists_latchDynHeader (hlit hdist : BitVec 5) (hclen : BitVec 4) (cll : List (BitVec 3)) :
    ∃ a b c v, ∀ s, latchDynHeader hlit hdist hclen cll s = { s with nLl := a, nD := b, nCl := c, clLen := v } :=
  ⟨_, _, _, _, fun _ => rfl⟩

/-- An element writes output only by the three that append it. -/
theorem Effect.appended (h : Effect h s t) : Appended s t := by
  cases h
  case storedCopied len nlen hn hi ho =>
    refine appended_of_write ho fun a ha => ?_
    rw [Memory.read_writeBytes, dif_neg (by rw [Memory.length_readBytes]; omega)]
  case literal y e hy ho =>
    refine appended_of_write (n := 1) (by omega) fun a ha => ?_
    rw [Memory.read_write, if_neg (by omega)]
  case matchCopied d x hd hb ho => exact appended_of_write ho fun a ha => read_matchMemory_outside _ _ _ _ _ ha
  case dynFault hlit hdist hclen cll _ | dynBuilt hlit hdist hclen cll _ _ =>
    obtain ⟨a, b, c, v, hlatch⟩ := exists_latchDynHeader hlit hdist hclen cll
    rw [hlatch]
    exact ⟨rfl, rfl, rfl, rfl, le_rfl, fun hne => absurd rfl hne, fun _ _ => rfl⟩
  all_goals exact ⟨rfl, rfl, rfl, rfl, le_rfl, fun hne => absurd rfl hne, fun _ _ => rfl⟩

theorem StepTo.appended (h : StepTo s t) : Appended s t := by
  induction h with
  | rest => exact .refl _
  | fault hctx herr => exact (fetched_of_fetch_eq_err herr).appended.trans (appended_raise _ _)
  | element hctx hok he => exact (fetched_of_fetch_eq_ok hok).appended.trans he.appended
  | @length s u t i y x hfsm h0 hok hi hlo hhi _ ih =>
    have hheld : Appended u { u with matchLen := BitVec.ofNat 9 (matchLength y x) } :=
      (Effect.length (e := x) hlo hhi).appended
    exact ((fetched_of_fetch_eq_ok hok).appended.trans hheld).trans ih
  | fixed | built => exact ⟨rfl, rfl, rfl, rfl, le_rfl, fun hne => absurd rfl hne, fun _ _ => rfl⟩
  | buildLlFault => exact appended_raise _ _
  | @buildDFault s a =>
    exact ⟨rfl, rfl, rfl, rfl, le_rfl, fun hne => absurd rfl hne, fun _ _ => rfl⟩

theorem appended_of_step (h : step s = .next t) : Appended s t := (step_eq_next_iff.1 h).appended

/-- Settles O48: a step has only appended output. -/
theorem outputIsAppendOnly : Obligations.OutputIsAppendOnly := fun _ _ h =>
  have ha := appended_of_step h
  ⟨ha.le, ha.bound, ha.omem, ha.imem, ha.inLen, ha.outCap⟩

/-- Settles O46: by what a step and the host's operations keep. -/
theorem widthIsAParameter : Obligations.WidthIsAParameter :=
  ⟨fun _ => rfl, rfl, fun _ _ => ⟨fun h => (appended_of_step h).aw, fun _ h => (hostEffect_of_hostStep h).aw_eq⟩⟩

theorem Fetched.outPos_eq (h : Fetched ctx s u) : u.omem = s.omem ∧ u.outPos.toNat = s.outPos.toNat := by
  obtain ⟨_, _, _, _, _, _, rfl, -⟩ := h
  exact ⟨rfl, rfl⟩

/-- An element that faults has written no output: the three that write some end in another control state. -/
theorem Effect.outPos_eq_of_error (h : Effect h s t) (ht : t.fsm = .error) :
    t.omem = s.omem ∧ t.outPos.toNat = s.outPos.toNat := by
  cases h
  case storedCopied =>
    replace ht : afterBlock s.bfinal = .error := ht
    rw [afterBlock] at ht
    split_ifs at ht
  case literal => cases ht
  case matchCopied => cases ht
  case dynFault hlit hdist hclen cll _ | dynBuilt hlit hdist hclen cll _ _ =>
    obtain ⟨a, b, c, v, hlatch⟩ := exists_latchDynHeader hlit hdist hclen cll
    rw [hlatch]
    exact ⟨rfl, rfl⟩
  all_goals exact ⟨rfl, rfl⟩

theorem StepTo.outPos_eq_of_error (h : StepTo s t) (hs : s.fsm ≠ .error) (ht : t.fsm = .error) :
    t.omem = s.omem ∧ t.outPos.toNat = s.outPos.toNat := by
  induction h with
  | rest => exact ⟨rfl, rfl⟩
  | fault hctx herr => exact (fetched_of_fetch_eq_err herr).outPos_eq
  | element hctx hok he =>
    obtain ⟨hmem, hpos⟩ := (fetched_of_fetch_eq_ok hok).outPos_eq
    obtain ⟨hmem', hpos'⟩ := he.outPos_eq_of_error ht
    exact ⟨hmem'.trans hmem, hpos'.trans hpos⟩
  | length hfsm h0 hok hi hlo hhi _ ih =>
    have hf := fetched_of_fetch_eq_ok hok
    obtain ⟨hmem, hpos⟩ := hf.outPos_eq
    obtain ⟨hmem', hpos'⟩ := ih (by rw [fsm_of_fetched hf, hfsm]; nofun) ht
    exact ⟨hmem'.trans hmem, hpos'.trans hpos⟩
  | fixed | buildLlFault | buildDFault | built => exact ⟨rfl, rfl⟩

/-- Settles O41: the three elements that write output end in another control state. -/
theorem faultingStepWritesNoOutput : Obligations.FaultingStepWritesNoOutput := fun _ _ hs h ht =>
  (step_eq_next_iff.1 h).outPos_eq_of_error hs ht

end Sys2Proof.Machine
end

section
/-! PROOFS. Which faults a read can end in (60_exceptions R271 to R273): the end of the input, or a dead end of a table. -/

namespace Sys2Proof.Machine

variable {σ α β : Type} {src : Source σ} {E : ErrKind → Prop}

/-- A read that fails does so with one of these error kinds. -/
def Rd.FailsIn (E : ErrKind → Prop) (r : Rd σ α) : Prop := ∀ e s, r = .err e s → E e

theorem Rd.failsIn_ok (a : α) (s : σ) : Rd.FailsIn E (.ok a s) := nofun

theorem Rd.FailsIn.bind {r : Rd σ α} {f : α → σ → Rd σ β} (hr : r.FailsIn E) (hf : ∀ a s, (f a s).FailsIn E) :
    (r.bind f).FailsIn E := by
  cases r with
  | ok a s => exact hf a s
  | err e s => exact fun _ _ h => by cases h; exact hr e s rfl

theorem failsIn_readBits (hE : E .unexpectedEndOfInput) (n : Nat) (o : Order) (s : σ) : (readBits src n o s).FailsIn E := by
  induction n generalizing s with
  | zero => rw [readBits_zero]; exact Rd.failsIn_ok _ _
  | succ n ih =>
    rcases hnext : src.next s with _ | ⟨b, t⟩
    · rw [readBits_succ_of_next_eq_none hnext]
      exact fun _ _ h => by cases h; exact hE
    · rw [readBits_succ_of_next hnext]
      exact (ih t).bind fun _ _ => Rd.failsIn_ok _ _

theorem failsIn_decodeLoop (hE : E .unexpectedEndOfInput) (hi : E .incompleteHuffmanTable) (n : Nat) (cs : List Code)
    (v l : Nat) (s : σ) : (decodeLoop src n cs v l s).FailsIn E := by
  induction n generalizing cs v l s with
  | zero => exact fun _ _ h => by cases h; exact hi
  | succ n ih =>
    rw [decodeLoop]
    generalize cs.filter (fun c => c.hasPrefix l v) = live
    split_ifs with hlive
    · exact fun _ _ h => by cases h; exact hi
    · cases live.find? fun c => c.isWord l v
      · have hbit := failsIn_readBits (src := src) hE 1 .msb s
        generalize readBits src 1 .msb s = r at hbit
        cases r with
        | ok b t => exact ih live (v * 2 + b) (l + 1) t
        | err e t => exact hbit
      · exact Rd.failsIn_ok _ _

theorem failsIn_readClLens (hE : E .unexpectedEndOfInput) (cs : List Nat) (s : σ) : (readClLens src cs s).FailsIn E := by
  induction cs generalizing s with
  | nil => exact Rd.failsIn_ok _ _
  | cons c cs ih => exact (failsIn_readBits hE _ _ _).bind fun _ _ => (ih _).bind fun _ _ => Rd.failsIn_ok _ _

/-- A fixed table has no dead end, so no read of one of its symbols fails in one. -/
theorem failsIn_decodeSymbol_of_covers {L : List Nat} {k m : Nat} (hE : E .unexpectedEndOfInput) (hk : k ≤ m)
    (h : Covers (codes L m) k 0 0) (s : σ) : (decodeSymbol src L m s).FailsIn E := by
  intro e t herr
  have hkind := failsIn_decodeLoop (E := fun e => e = .unexpectedEndOfInput ∨ e = .incompleteHuffmanTable)
    (.inl rfl) (.inr rfl) _ _ _ _ s e t herr
  rcases hkind with rfl | rfl
  · exact hE
  · exact absurd herr (decodeSymbol_ne_incomplete src hk h s t)

/-- The contexts in which a read can end in a dead end of a table: those of symbols, the fixed tables aside. -/
def HasDeadEnd : Ctx → Prop
  | .codeLen _ _ => True
  | .litLen L => L ≠ fixedLl
  | .distance L => L ≠ fixedD
  | _ => False

/-- What a read of an element can fail with. -/
theorem failsIn_decodeElement (ctx : Ctx) (s : σ) : (decodeElement src ctx s).FailsIn fun e =>
    e = .unexpectedEndOfInput ∨ (e = .incompleteHuffmanTable ∧ HasDeadEnd ctx) := by
  have hbits : ∀ {ctx : Ctx} (n : Nat) (o : Order) (s : σ), (readBits src n o s).FailsIn fun e =>
      e = .unexpectedEndOfInput ∨ (e = .incompleteHuffmanTable ∧ HasDeadEnd ctx) := failsIn_readBits (.inl rfl)
  cases ctx with
  | header => exact (hbits _ _ _).bind fun _ _ => (hbits _ _ _).bind fun _ _ => Rd.failsIn_ok _ _
  | stored => exact (hbits _ _ _).bind fun _ _ => (hbits _ _ _).bind fun _ _ => Rd.failsIn_ok _ _
  | dynHeader =>
    exact (hbits _ _ _).bind fun _ _ => (hbits _ _ _).bind fun _ _ => (hbits _ _ _).bind fun _ _ =>
      (failsIn_readClLens (.inl rfl) _ _).bind fun _ _ => Rd.failsIn_ok _ _
  | codeLen L first =>
    refine (failsIn_decodeLoop (.inl rfl) (.inr ⟨rfl, trivial⟩) _ _ _ _ _).bind fun c _ => ?_
    split_ifs
    · exact Rd.failsIn_ok _ _
    · exact (hbits _ _ _).bind fun _ _ => Rd.failsIn_ok _ _
  | litLen L =>
    refine Rd.FailsIn.bind ?_ fun _ _ => (hbits _ _ _).bind fun _ _ => Rd.failsIn_ok _ _
    by_cases hL : L = fixedLl
    · rw [hL]; exact failsIn_decodeSymbol_of_covers (.inl rfl) (by decide) covers_fixedLl s
    · exact failsIn_decodeLoop (.inl rfl) (.inr ⟨rfl, hL⟩) _ _ _ _ _
  | distance L =>
    refine Rd.FailsIn.bind ?_ fun _ _ => (hbits _ _ _).bind fun _ _ => Rd.failsIn_ok _ _
    by_cases hL : L = fixedD
    · rw [hL]; exact failsIn_decodeSymbol_of_covers (.inl rfl) (by decide) covers_fixedD s
    · exact failsIn_decodeLoop (.inl rfl) (.inr ⟨rfl, hL⟩) _ _ _ _ _

end Sys2Proof.Machine
end

section
/-! PROOFS. The faults and the successors of each control state (42_block_decoder R180, 60_exceptions R271 to R280). -/

namespace Sys2Proof

open Sys2Proof.Machine

/-- The control state that reads an element of this kind. -/
def Head.fsm : Head → Fsm
  | .header _ _ => .header
  | .stored _ _ => .stored
  | .dyn _ _ _ _ => .dynHeader
  | .cl _ _ => .dynLengths
  | .ll _ _ => .symbol
  | .dist _ _ => .symbol

/-- The control state that reads in this context. -/
def Ctx.fsm : Ctx → Fsm
  | .header => .header
  | .stored => .stored
  | .dynHeader => .dynHeader
  | .codeLen _ _ => .dynLengths
  | .litLen _ => .symbol
  | .distance _ => .symbol

theorem Ctx.Reads.fsm_eq {ctx : Ctx} {h : Head} : ctx.Reads h → ctx.fsm = h.fsm := by
  cases ctx <;> cases h <;> simp [Ctx.Reads, Ctx.fsm, Head.fsm]

end Sys2Proof

namespace Sys2Proof.Machine

variable {ctx : Ctx} {h : Head} {i : Instr} {e : ErrKind} {s t u : State}

theorem ReadsNext.fsm_eq (hctx : ReadsNext s ctx) : s.fsm = ctx.fsm := by
  cases hctx with
  | symbol h => rw [h, symbolCtx]; split_ifs <;> rfl
  | header h | stored h | dynHeader h | dynLengths h => exact h

theorem fsm_eq_of_fetch_eq_ok (hctx : ReadsNext s ctx) (hok : fetch ctx s = .ok i u) : u.fsm = i.head.fsm := by
  rw [fsm_of_fetched (fetched_of_fetch_eq_ok hok), hctx.fsm_eq, (reads_of_decodeElement_eq_ok hok).fsm_eq]

theorem err_of_fetched (h : Fetched ctx s u) : u.err = s.err := by
  obtain ⟨_, _, _, _, _, _, rfl, -⟩ := h
  rfl

/-- The faults of the elements themselves, by the control state that reads them. -/
def Raises (f : Fsm) : ErrKind → Prop
  | .invalidBlockType => f = .header
  | .overSubscribedHuffmanTable => f = .dynHeader ∨ f = .dynBuild
  | .incompleteHuffmanTable => False
  | .unexpectedEndOfInput => f = .stored
  | .backReferenceOutOfRange => f = .symbol
  | .outputBufferExhausted => f = .stored ∨ f = .symbol
  | .malformedCodeLengthRun => f = .dynLengths
  | .storedLengthMismatch => f = .stored
  | .reservedSymbol => f = .symbol

/-- Where a fault of a step comes from: the element or set-up itself, the end of the input, or a dead end of a table. -/
inductive FaultOf (s : State) : ErrKind → Prop
  | own {e : ErrKind} (h : Raises s.fsm e) : FaultOf s e
  | inputEnds {ctx : Ctx} (h : ReadsNext s ctx) : FaultOf s .unexpectedEndOfInput
  | deadEndOfLengths (h : s.fsm = .dynLengths) : FaultOf s .incompleteHuffmanTable
  | deadEndOfSymbols (h : s.fsm = .symbol) (hfix : ¬ (s.llLengths = fixedLl ∧ s.dLengths = fixedD)) :
      FaultOf s .incompleteHuffmanTable

theorem Effect.raises (he : Effect h s t) (hfsm : s.fsm = h.fsm) (hs : s.err = none) (ht : t.err = some e) :
    Raises s.fsm e := by
  cases he
  case reserved | storedMismatch | storedEnd | runFault | matchTooFar | reservedLl | reservedDist => cases ht; exact hfsm
  case storedFull | dynFault => cases ht; exact .inl hfsm
  case literalFull | matchFull => cases ht; exact .inr hfsm
  all_goals exact absurd (hs.symm.trans ht) nofun

/-- A read fails at the end of the input or in a dead end. -/
theorem faultOf_of_fetch_eq_err (hctx : ReadsNext s ctx) (herr : fetch ctx s = .err e u) : FaultOf s e := by
  rcases failsIn_decodeElement ctx s e u herr with rfl | ⟨rfl, hdead⟩
  · exact .inputEnds hctx
  · cases hctx with
    | header | stored | dynHeader => exact hdead.elim
    | dynLengths hfsm => exact .deadEndOfLengths hfsm
    | symbol hfsm =>
      refine .deadEndOfSymbols hfsm fun ⟨hll, hd⟩ => ?_
      rw [symbolCtx] at hdead
      split_ifs at hdead
      · exact hdead hll
      · exact hdead hd

theorem StepTo.faultOf (h : StepTo s t) (hs : s.err = none) (ht : t.err = some e) : FaultOf s e := by
  induction h with
  | rest => exact absurd (hs.symm.trans ht) nofun
  | fault hctx herr => cases ht; exact faultOf_of_fetch_eq_err hctx herr
  | element hctx hok he =>
    have hf := fetched_of_fetch_eq_ok hok
    exact .own (fsm_of_fetched hf ▸ he.raises (fsm_eq_of_fetch_eq_ok hctx hok) ((err_of_fetched hf).trans hs) ht)
  | length hfsm h0 hok hi hlo hhi _ ih =>
    obtain ⟨c, rfl⟩ := (fetched_of_fetch_eq_ok hok).eq_with_cur nofun nofun
    -- The held length changes neither the control state nor the tables.
    cases ih hs ht with
    | own h => exact .own h
    | inputEnds => exact .inputEnds (.symbol hfsm)
    | deadEndOfLengths h => exact .deadEndOfLengths h
    | deadEndOfSymbols h hfix => exact .deadEndOfSymbols h hfix
  | fixed | built => exact absurd (hs.symm.trans ht) nofun
  | buildLlFault hfsm | buildDFault hfsm => cases ht; exact .own (.inr hfsm)

/-- Settles O40: by where a fault of a step comes from. -/
theorem errorKindsComeFromTheirSteps : Obligations.ErrorKindsComeFromTheirSteps := by
  intro s t e hs hstep ht
  have hreads : ∀ {ctx : Ctx}, ReadsNext s ctx →
      s.fsm = .header ∨ s.fsm = .stored ∨ s.fsm = .dynHeader ∨ s.fsm = .dynLengths ∨ s.fsm = .symbol := fun h => by
    cases h <;> simp [*]
  refine ⟨?_, ?_, ?_, ?_, ?_, ?_, ?_, ?_, ?_⟩
  all_goals
    rintro rfl
    cases (step_eq_next_iff.1 hstep).faultOf hs ht
  case refine_3.deadEndOfLengths h => exact .inl h
  case refine_3.deadEndOfSymbols h hfix => exact .inr ⟨h, hfix⟩
  case refine_4.own h => exact .inr (.inl h)
  case refine_4.inputEnds h => exact hreads h
  case refine_3.own h => exact h.elim
  all_goals assumption

/-- The successors of a control state (42 R180). -/
def Follows (s t : State) : Prop :=
  match s.fsm with
  | .header => t.fsm = .stored ∧ t.btype = 0 ∨ t.fsm = .fixed ∧ t.btype = 1 ∨ t.fsm = .dynHeader ∧ t.btype = 2
  | .stored => t.fsm = afterBlock s.bfinal
  | .dynHeader => t.fsm = .dynLengths
  | .dynLengths => t.fsm = if t.idx = t.total then .dynBuild else .dynLengths
  | .fixed | .dynBuild => t.fsm = .symbol
  | .symbol => t.fsm = .symbol ∨ t.fsm = afterBlock s.bfinal
  | .idle | .done | .error => True

theorem Effect.follows (he : Effect h s t) (hfsm : s.fsm = h.fsm) (ht : t.fsm ≠ .error) : Follows s t := by
  simp only [Follows, hfsm]
  cases he
  case header ty f h3 =>
    have hty : ∀ ty : BitVec 2, ty ≠ 3 → ty = 0 ∨ ty = 1 ∨ ty = 2 := by decide
    rcases hty ty h3 with rfl | rfl | rfl
    · exact .inl ⟨rfl, rfl⟩
    · exact .inr (.inl ⟨rfl, rfl⟩)
    · exact .inr (.inr ⟨rfl, rfl⟩)
  case storedCopied | dynBuilt | runStored => rfl
  case literal | matchCopied => exact .inl rfl
  case length => exact .inl hfsm
  case endOfBlock => exact .inr rfl
  all_goals exact absurd rfl ht

theorem Fetched.follows (hf : Fetched ctx s u) (hctx : ReadsNext s ctx) (h : Follows u t) : Follows s t := by
  have hfsm := hctx.fsm_eq
  obtain ⟨c, f, a, b, n, v, rfl, hkeep, -⟩ := hf
  simp only [Follows, hfsm] at h ⊢
  cases ctx with
  | header | dynHeader | codeLen => exact h
  | stored | litLen | distance => cases hkeep nofun; exact h

theorem StepTo.follows (h : StepTo s t) (ht : t.fsm ≠ .error) : Follows s t := by
  induction h with
  | @rest s h => rcases h with h | h | h <;> simp only [Follows, h]
  | fault => exact absurd rfl ht
  | element hctx hok he =>
    exact (fetched_of_fetch_eq_ok hok).follows hctx (he.follows (fsm_eq_of_fetch_eq_ok hctx hok) ht)
  | length hfsm h0 hok hi hlo hhi _ ih =>
    obtain ⟨c, rfl⟩ := (fetched_of_fetch_eq_ok hok).eq_with_cur nofun nofun
    exact ih ht
  | fixed hfsm | built hfsm => simp only [Follows, hfsm]
  | buildLlFault | buildDFault => exact absurd rfl ht

/-- Settles O49: by the successors of each control state. -/
theorem stepsFollowTheStateTable : Obligations.StepsFollowTheStateTable := by
  intro s t hstep _ ht
  have h := (step_eq_next_iff.1 hstep).follows ht
  refine ⟨?_, ?_, ?_, ?_, ?_, ?_, ?_⟩
  all_goals
    intro hfsm
    simp only [Follows, hfsm] at h
    exact h

end Sys2Proof.Machine
end

section
/-! PROOFS. The invariants of a run (10_state R39), one at a time: every step keeps them. -/

namespace Sys2Proof.Machine

variable {ctx : Ctx} {h : Head} {i : Instr} {e : ErrKind} {s t u : State}

theorem headerNext_cases (t : BitVec 2) : headerNext t = .stored ∨ headerNext t = .fixed ∨ headerNext t = .dynHeader := by
  rw [headerNext]
  split_ifs <;> simp

theorem afterBlock_cases (f : BitVec 1) : afterBlock f = .done ∨ afterBlock f = .header := by
  rw [afterBlock]
  split_ifs <;> simp

/-- A stored body has been read from byte boundaries, so no residual bits are left. -/
theorem bitcnt_of_fetch_stored (h : CursorInv s) (hok : fetch .stored s = .ok i u) : u.cur.bitcnt = 0 := by
  obtain ⟨hin, hend⟩ := storedFieldsAreLittleEndian s h
  obtain hle | hlt := le_or_gt (s.cur.inPos.toNat + 4) s.inLen.toNat
  · cases (hin hle).symm.trans hok
    rfl
  · cases (hend hlt).symm.trans hok

/-- The payload of a stored body lies inside the input. -/
theorem toNat_inPos_add (h : CursorInv s) {n : Nat} (hn : n ≤ s.inLen.toNat - s.cur.inPos.toNat) :
    (s.cur.inPos + BitVec.ofNat s.aw n).toNat = s.cur.inPos.toNat + n := addr_add_ofNat hn h.1

/-- Only a stored body moves the cursor, which then has no residual bits. -/
theorem Effect.cursorInv (he : Effect h s t) (hc : CursorInv s) (halign : h.fsm = .stored → s.cur.bitcnt = 0) :
    CursorInv t ∧ s.cur.bitIndex ≤ t.cur.bitIndex := by
  cases he
  case storedCopied len nlen hn hi ho =>
    have hpos := toNat_inPos_add hc hi
    have hsum := hc.bitIndex_add_bitcnt
    obtain ⟨hin, hlt, -⟩ := hc
    refine ⟨⟨?_, hlt, fun h0 => absurd (halign rfl) h0⟩, ?_⟩
    · show (s.cur.inPos + BitVec.ofNat s.aw len.toNat).toNat ≤ s.inLen.toNat
      omega
    · show s.cur.bitIndex ≤ 8 * (s.cur.inPos + BitVec.ofNat s.aw len.toNat).toNat - s.cur.bitcnt.toNat
      omega
  case dynFault hlit hdist hclen cll _ | dynBuilt hlit hdist hclen cll _ _ =>
    obtain ⟨a, b, c, v, hlatch⟩ := exists_latchDynHeader hlit hdist hclen cll
    rw [hlatch]
    exact ⟨hc, le_rfl⟩
  all_goals exact ⟨hc, le_rfl⟩

theorem Effect.memoryInv (he : Effect h s t) (hm : MemoryInv s) : MemoryInv t := by
  obtain ⟨hi, ho⟩ := hm
  cases he
  case storedCopied => exact ⟨hi, Memory.wf_writeBytes _ _ _ ho⟩
  case literal => exact ⟨hi, Memory.wf_write _ _ _ ho⟩
  case matchCopied => exact ⟨hi, matchMemory_wf _ _ _ _ ho⟩
  case dynFault hlit hdist hclen cll _ | dynBuilt hlit hdist hclen cll _ _ =>
    obtain ⟨a, b, c, v, hlatch⟩ := exists_latchDynHeader hlit hdist hclen cll
    rw [hlatch]
    exact ⟨hi, ho⟩
  all_goals exact ⟨hi, ho⟩

/-- An element ends in `S_ERROR` with an error code, or elsewhere with none added. -/
theorem Effect.err_cases (he : Effect h s t) (hfsm : s.fsm = h.fsm) :
    (t.fsm = .error ∧ t.err.isSome = true) ∨ (t.fsm ≠ .error ∧ t.err = s.err) := by
  cases he
  case header ty f h3 => exact .inr ⟨by rcases headerNext_cases ty with h | h | h <;> simp [h], rfl⟩
  case storedCopied | endOfBlock =>
    exact .inr ⟨by rcases afterBlock_cases s.bfinal with h | h <;> simp [h], rfl⟩
  case dynBuilt | literal | matchCopied => exact .inr ⟨nofun, rfl⟩
  case runStored => exact .inr ⟨by dsimp only; split_ifs <;> nofun, rfl⟩
  case length => exact .inr ⟨by simp [hfsm, Head.fsm], rfl⟩
  all_goals exact .inl ⟨rfl, rfl⟩

theorem errInv_raise (s : State) (e : ErrKind) : ErrInv (s.raise e) := ⟨fun _ => rfl, fun _ => rfl⟩

/-- Where an element is read there is no error code. -/
theorem ErrInv.err_eq_none (hs : ErrInv s) (hfsm : s.fsm ≠ .error) : s.err = none := by
  rw [ErrInv] at hs
  simpa [hfsm] using hs

theorem Head.fsm_ne_error (h : Head) : h.fsm ≠ .error := by cases h <;> nofun

theorem Effect.errInv (he : Effect h s t) (hfsm : s.fsm = h.fsm) (hs : ErrInv s) : ErrInv t := by
  rcases he.err_cases hfsm with ⟨hf, herr⟩ | ⟨hf, herr⟩
  · exact ⟨fun _ => hf, fun _ => herr⟩
  · exact errInv_of_none (herr.trans (hs.err_eq_none (hfsm ▸ Head.fsm_ne_error h))) hf

/-- A code-length symbol that is a length stores one entry. -/
theorem runLength_of_le {c : Nat} (e : Nat) (hc : c ≤ 15) : runLength c e = 1 := if_pos hc

/-- 43 R226: a run that is stored ends within the lengths of the block, at the latest where they end. -/
theorem Effect.tablesInv_runStored {c e : Nat} (hT : TablesInv s) (hfsm : s.fsm = .dynLengths)
    (hfit : 16 ≤ c → runLength c e ≤ s.total.toNat - s.idx.toNat) (hcap : s.idx.toNat + runLength c e ≤ Config.CAP_LENS) :
    TablesInv { s with
      lens := fillVector (runLength c e) s.idx.toNat (s.runValue c) s.lens
      idx := s.idx + BitVec.ofNat 9 (runLength c e)
      fsm := if s.idx + BitVec.ofNat 9 (runLength c e) = s.total then .dynBuild else .dynLengths } := by
  obtain ⟨hsizes, htotal, hidx, htrie⟩ := hT.1 hfsm
  have hcap' : s.idx.toNat + runLength c e ≤ 320 := hcap
  have hadd : (s.idx + BitVec.ofNat 9 (runLength c e)).toNat = s.idx.toNat + runLength c e := by
    rw [BitVec.toNat_add, BitVec.toNat_ofNat]
    omega
  by_cases hend : s.idx + BitVec.ofNat 9 (runLength c e) = s.total
  · rw [if_pos hend]
    exact ⟨nofun, fun _ => ⟨hsizes, htotal, hend⟩, nofun⟩
  · rw [if_neg hend]
    refine ⟨fun _ => ⟨hsizes, htotal, ?_, htrie⟩, nofun, nofun⟩
    show (s.idx + BitVec.ofNat 9 (runLength c e)).toNat < s.total.toNat
    have hne : s.idx.toNat + runLength c e ≠ s.total.toNat := fun h => hend (BitVec.eq_of_toNat_eq (hadd.trans h))
    obtain hc | hc : c ≤ 15 ∨ 16 ≤ c := by omega
    · rw [hadd]
      have := runLength_of_le e hc
      omega
    · have := hfit hc
      omega

theorem Effect.tablesInv (he : Effect h s t) (hfsm : s.fsm = h.fsm) (hT : TablesInv s) : TablesInv t := by
  cases he
  case header ty f h3 =>
    rcases headerNext_cases ty with h | h | h <;> rw [h] <;> exact tablesInv_of_fsm nofun nofun nofun
  case storedCopied | endOfBlock =>
    rcases afterBlock_cases s.bfinal with h | h <;> rw [h] <;> exact tablesInv_of_fsm nofun nofun nofun
  case dynBuilt hlit hdist hclen cll trie hb =>
    have hlit' := toNat_litLenCount hlit
    have hdist' := toNat_distCount hdist
    have hsum : (BitVec.ofNat 9 ((litLenCount hlit).toNat + (distCount hdist).toNat)).toNat =
        (litLenCount hlit).toNat + (distCount hdist).toNat := by
      rw [BitVec.toNat_ofNat]
      omega
    refine ⟨fun _ => ⟨⟨?_, ?_, ?_, ?_⟩, hsum, ?_, hb⟩, nofun, nofun⟩
    · show 257 ≤ (litLenCount hlit).toNat
      omega
    · show (litLenCount hlit).toNat ≤ 288
      omega
    · show 1 ≤ (distCount hdist).toNat
      omega
    · show (distCount hdist).toNat ≤ 32
      omega
    · exact Nat.lt_of_lt_of_eq (show 0 < (litLenCount hlit).toNat + (distCount hdist).toNat by omega) hsum.symm
  case runStored c e h16 hfit hcap => exact Effect.tablesInv_runStored hT hfsm hfit hcap
  case literal | matchCopied => exact ⟨nofun, nofun, fun _ => hT.2.2 hfsm⟩
  case length => exact hT
  all_goals exact tablesInv_of_fsm nofun nofun nofun

theorem Fetched.tablesInv (hf : Fetched ctx s u) (hctx : ReadsNext s ctx) (hT : TablesInv s) : TablesInv u := by
  have hfsm := (fsm_of_fetched hf).trans hctx.fsm_eq
  cases ctx with
  | header | stored | dynHeader => exact tablesInv_of_fsm (hfsm ▸ nofun) (hfsm ▸ nofun) (hfsm ▸ nofun)
  | codeLen | litLen | distance =>
    obtain ⟨c, rfl⟩ := hf.eq_with_cur nofun nofun
    exact hT

end Sys2Proof.Machine
end

section
/-! PROOFS. Steps and the invariants of a run: O43, O45, O47; the cursor's progress: O50; the end of every run: O51. -/

namespace Sys2Proof.Machine

variable {ctx : Ctx} {h : Head} {i : Instr} {e : ErrKind} {s t u : State}

/-- What holds between the steps of a run, the width and the match length aside. -/
structure RunInv (s : State) : Prop where
  cursor : CursorInv s
  output : OutputInv s
  memory : MemoryInv s
  err : ErrInv s
  tables : TablesInv s

theorem Appended.outputInv (h : Appended s t) (ho : OutputInv s) : OutputInv t := by
  have hbound := h.bound
  have hcap := h.outCap
  rw [OutputInv] at ho ⊢
  omega

theorem Fetched.runInv (hf : Fetched ctx s u) (hctx : ReadsNext s ctx) (hc : CursorInv u) (hs : RunInv s) : RunInv u where
  cursor := hc
  output := hf.appended.outputInv hs.output
  memory := by
    obtain ⟨_, _, _, _, _, _, rfl, -⟩ := hf
    exact hs.memory
  err := by
    rw [ErrInv, err_of_fetched hf, fsm_of_fetched hf]
    exact hs.err
  tables := hf.tablesInv hctx hs.tables

theorem RunInv.of_fetch_eq_ok (hs : RunInv s) (hctx : ReadsNext s ctx) (hok : fetch ctx s = .ok i u) : RunInv u :=
  (fetched_of_fetch_eq_ok hok).runInv hctx (hs.cursor.of_fetch_eq_ok hok).1 hs

/-- A fault leaves the memories and the cursor, and `S_ERROR` has no tables. -/
theorem RunInv.raise (hs : RunInv s) (e : ErrKind) : RunInv (s.raise e) :=
  ⟨hs.cursor, hs.output, hs.memory, errInv_raise s e, tablesInv_of_fsm nofun nofun nofun⟩

/-- The cursor after a stored body's fields has no residual bits. -/
theorem bitcnt_of_fetch (hc : CursorInv s) (hctx : ReadsNext s ctx) (hok : fetch ctx s = .ok i u)
    (hfsm : i.head.fsm = .stored) : u.cur.bitcnt = 0 := by
  rw [← (reads_of_decodeElement_eq_ok hok).fsm_eq] at hfsm
  cases ctx
  case stored => exact bitcnt_of_fetch_stored hc hok
  all_goals cases hfsm

/-- An element that has been read keeps the invariants and has moved the cursor forward. -/
theorem RunInv.of_element (hs : RunInv s) (hctx : ReadsNext s ctx) (hok : fetch ctx s = .ok i u) (he : Effect i.head u t) :
    RunInv t ∧ s.cur.bitIndex < t.cur.bitIndex := by
  have hu := hs.of_fetch_eq_ok hctx hok
  have hfsm := fsm_eq_of_fetch_eq_ok hctx hok
  obtain ⟨hc, hle⟩ := he.cursorInv hu.cursor (bitcnt_of_fetch hs.cursor hctx hok)
  exact ⟨⟨hc, he.appended.outputInv hu.output, he.memoryInv hu.memory, he.errInv hfsm hu.err, he.tablesInv hfsm hu.tables⟩,
    (hs.cursor.of_fetch_eq_ok hok).2.trans_le hle⟩

/-- The match length is read in the next state, where the same invariants hold. -/
theorem readsNext_of_length (hfsm : s.fsm = .symbol) (h0 : s.matchLen = 0) : ReadsNext s (.litLen s.llLengths) :=
  symbolCtx_of_eq_zero h0 ▸ ReadsNext.symbol hfsm

/-- The lengths of a fixed block have their tries. -/
theorem tablesInv_fixed {a b : Trie} (ha : buildTrie fixedLl Config.MAXBITS = some a)
    (hb : buildTrie fixedD Config.MAXBITS = some b) :
    TablesInv { s with nLl := 288, nD := 32, lens := fixedLens, llTrie := a, dTrie := b, fsm := .symbol } :=
  have hsizes : ∀ s : State, s.nLl = 288 → s.nD = 32 → SizesInv s := fun s hl hd => by
    rw [SizesInv, hl, hd]
    decide
  ⟨nofun, nofun, fun _ => ⟨hsizes _ rfl rfl, (llLengths_fixed s).symm ▸ ha, (dLengths_fixed s).symm ▸ hb⟩⟩

/-- Invariants 1 to 7 of 10 R39. -/
theorem StepTo.runInv (h : StepTo s t) (hs : RunInv s) : RunInv t := by
  induction h with
  | rest => exact hs
  | fault hctx herr =>
    exact ((fetched_of_fetch_eq_err herr).runInv hctx (hs.cursor.of_fetch_eq_err herr).1 hs).raise _
  | element hctx hok he => exact (hs.of_element hctx hok he).1
  | length hfsm h0 hok hi hlo hhi _ ih =>
    have hu := hs.of_fetch_eq_ok (readsNext_of_length hfsm h0) hok
    exact ih ⟨hu.cursor, hu.output, hu.memory, hu.err, hu.tables⟩
  | fixed hfsm ha hb =>
    exact ⟨hs.cursor, hs.output, hs.memory, errInv_of_none (hs.err.err_eq_none (hfsm ▸ nofun)) nofun, tablesInv_fixed ha hb⟩
  | buildLlFault hfsm => exact hs.raise _
  | buildDFault hfsm ha =>
    exact ⟨hs.cursor, hs.output, hs.memory, errInv_raise _ _, tablesInv_of_fsm nofun nofun nofun⟩
  | built hfsm ha hb =>
    exact ⟨hs.cursor, hs.output, hs.memory, errInv_of_none (hs.err.err_eq_none (hfsm ▸ nofun)) nofun,
      nofun, nofun, fun _ => ⟨(hs.tables.2.1 hfsm).1, ha, hb⟩⟩

/-- No match is half executed after a step: its distance half runs in the same step, or faults. -/
theorem StepTo.matchLen_eq_zero (h : StepTo s t) (hs : s.matchLen ≠ 0 → s.fsm = .symbol) : t.matchLen = 0 := by
  induction h with
  | @rest s h =>
    by_contra hne
    simp [hs hne] at h
  | fault => rfl
  | @element s u t ctx i hctx hok he hlen =>
    have hmatch := matchLen_of_fetched (fetched_of_fetch_eq_ok hok)
    by_cases h0 : s.matchLen = 0
    · rcases he.matchLen_eq hlen with h | h
      · rw [h, hmatch, h0]
      · exact h
    · have hfsm := hs h0
      have hdist : ctx = .distance s.dLengths := by cases hctx <;> simp_all [symbolCtx_of_ne_zero]
      have hreads := reads_of_decodeElement_eq_ok hok
      rw [hdist] at hreads
      generalize i.head = f at he hreads
      cases he
      case matchTooFar | matchFull | matchCopied | reservedDist => rfl
      all_goals exact hreads.elim
  | length hfsm h0 hok hi hlo hhi _ ih =>
    exact ih fun _ => (fsm_of_fetched (fetched_of_fetch_eq_ok hok)).trans hfsm
  | fixed hfsm | built hfsm =>
    by_contra hne
    simp [hs hne] at hfsm
  | buildLlFault | buildDFault => rfl

theorem MatchInv.half (h : MatchInv s) : s.matchLen ≠ 0 → s.fsm = .symbol := fun hne => absurd h hne

/-- Settles O43: each invariant by itself, the match length at the end of the whole step. -/
theorem stepKeepsTheInvariants : Obligations.StepKeepsTheInvariants := by
  rintro s t ⟨hw, hc, ho, hm, he, hT, hz⟩ hstep
  have hstep := step_eq_next_iff.1 hstep
  obtain ⟨hc', ho', hm', he', hT'⟩ := hstep.runInv ⟨hc, ho, hm, he, hT⟩
  exact ⟨by rwa [WidthInv, hstep.appended.aw], hc', ho', hm', he', hT', hstep.matchLen_eq_zero hz.half⟩

theorem rest_of_not_busy (h : s.busy = false) : s.fsm = .idle ∨ s.fsm = .done ∨ s.fsm = .error := by
  cases hfsm : s.fsm <;> simp [State.busy, statusOf, hfsm] at h ⊢

/-- Settles O45: outside a run a step changes nothing. -/
theorem hostKeepsTheInvariants : Obligations.HostKeepsTheInvariants := by
  refine fun s t hinv => ⟨fun _ h => (hostEffect_of_hostStep h).systemInv hinv, fun hstep => ?_⟩
  cases hb : s.busy
  · cases (step_of_rest (rest_of_not_busy hb)).symm.trans hstep
    exact hinv
  · obtain ⟨hw, hm, he, hT, hz, hrun⟩ := hinv
    obtain ⟨hc, ho⟩ := hrun hb
    exact (stepKeepsTheInvariants s t ⟨hw, hc, ho, hm, he, hT, hz⟩ hstep).systemInv

/-- 43 R227: with the invariant on the tables no run of code lengths leaves `lens`. -/
theorem TablesInv.exists_stepTo (hT : TablesInv s) : ∃ t, StepTo s t := by
  by_cases hfsm : s.fsm = .dynLengths
  · obtain ⟨⟨-, hll, -, hd⟩, htotal, hidx, -⟩ := hT.1 hfsm
    refine exists_stepTo_of_readsNext (.dynLengths hfsm)
      (fun i u hok => not_isLength_of_reads (reads_of_decodeElement_eq_ok hok) nofun) fun i u hok => ?_
    obtain ⟨c, rfl⟩ := (fetched_of_fetch_eq_ok hok).eq_with_cur nofun nofun
    refine (exists_effect i.head _).resolve_right ?_
    rintro ⟨c, e, -, -, hfit, hcap⟩
    replace hcap : 320 < s.idx.toNat + runLength c e := hcap
    replace hfit : 16 ≤ c → runLength c e ≤ s.total.toNat - s.idx.toNat := hfit
    have hone : c ≤ 15 → runLength c e = 1 := runLength_of_le e
    omega
  · exact exists_stepTo_of_fsm_ne hfsm

/-- Settles O47: the only way to have no next state is a run outside `lens`, and `idx` stays below `total`. -/
theorem everyStepIsSafe : Obligations.EveryStepIsSafe := by
  rintro s ⟨-, -, -, hT, -, -⟩
  obtain ⟨t, ht⟩ := hT.exists_stepTo
  exact ⟨t, ht.step_eq⟩

/-- The cursor never moves backward. -/
theorem StepTo.bitIndex_le (h : StepTo s t) (hs : RunInv s) : s.cur.bitIndex ≤ t.cur.bitIndex := by
  induction h with
  | rest | fixed | buildLlFault | buildDFault | built => exact le_rfl
  | fault hctx herr => exact (hs.cursor.of_fetch_eq_err herr).2
  | element hctx hok he => exact (hs.of_element hctx hok he).2.le
  | length hfsm h0 hok hi hlo hhi _ ih =>
    have hu := hs.of_fetch_eq_ok (readsNext_of_length hfsm h0) hok
    exact (hs.cursor.of_fetch_eq_ok hok).2.le.trans (ih ⟨hu.cursor, hu.output, hu.memory, hu.err, hu.tables⟩)

/-- A step that reads an element and raises no fault moves the cursor forward. -/
theorem StepTo.bitIndex_lt (h : StepTo s t) (hs : RunInv s) (hctx : ReadsNext s ctx) (ht : t.fsm ≠ .error) :
    s.cur.bitIndex < t.cur.bitIndex := by
  cases h with
  | rest h => cases hctx <;> simp_all
  | fault => exact absurd rfl ht
  | element hctx hok he => exact (hs.of_element hctx hok he).2
  | length hfsm h0 hok hi hlo hhi hrest =>
    have hu := hs.of_fetch_eq_ok (readsNext_of_length hfsm h0) hok
    exact (hs.cursor.of_fetch_eq_ok hok).2.trans_le (hrest.bitIndex_le ⟨hu.cursor, hu.output, hu.memory, hu.err, hu.tables⟩)
  | fixed hfsm | built hfsm => cases hctx <;> simp_all
  | buildLlFault | buildDFault => exact absurd rfl ht

/-- A state that reads elements reads one of some context. -/
theorem exists_readsNext (h : s.fsm = .header ∨ s.fsm = .stored ∨ s.fsm = .dynHeader ∨ s.fsm = .dynLengths ∨ s.fsm = .symbol) :
    ∃ ctx, ReadsNext s ctx := by
  rcases h with h | h | h | h | h
  exacts [⟨_, .header h⟩, ⟨_, .stored h⟩, ⟨_, .dynHeader h⟩, ⟨_, .dynLengths h⟩, ⟨_, .symbol h⟩]

/-- The set-ups of tables leave the cursor where it is. -/
theorem StepTo.sameCursor_of_setup (h : StepTo s t) (hfsm : s.fsm = .fixed ∨ s.fsm = .dynBuild) : SameCursor s t := by
  have hread : ∀ ctx, ¬ ReadsNext s ctx := fun ctx hctx => by cases hctx <;> simp_all
  cases h with
  | fault hctx => exact absurd hctx (hread _)
  | element hctx => exact absurd hctx (hread _)
  | length h => exact absurd (.symbol h) (hread _)
  | rest | fixed | buildLlFault | buildDFault | built => exact ⟨rfl, rfl, rfl⟩

/-- Settles O50: an element that was read moved the cursor by a bit at least, and nothing moves it back. -/
theorem stepsConsumeBits : Obligations.StepsConsumeBits := by
  rintro s t ⟨-, hc, ho, hm, he, hT, -⟩ hstep
  have hstep := step_eq_next_iff.1 hstep
  have hs : RunInv s := ⟨hc, ho, hm, he, hT⟩
  refine ⟨hstep.bitIndex_le hs, fun ht hfsm => ?_, hstep.sameCursor_of_setup⟩
  obtain ⟨ctx, hctx⟩ := exists_readsNext hfsm
  exact hstep.bitIndex_lt hs hctx ht

/-- The control states of the table set-ups. -/
def Fsm.isSetup (f : Fsm) : Bool := f == .fixed || f == .dynBuild

/-- What is left to do: two for each unread bit, and one for a table to be set up (42 R210). -/
def workLeft (s : State) : Nat := 2 * (8 * s.inLen.toNat - s.cur.bitIndex) + s.fsm.isSetup.toNat

/-- A run goes on, or it ends in `S_DONE`. -/
theorem Follows.busy_or_done (h : Follows s t) (hb : s.busy = true) : t.busy = true ∨ t.fsm = .done := by
  have hafter : t.fsm = afterBlock s.bfinal → t.busy = true ∨ t.fsm = .done := fun h => by
    rcases afterBlock_cases s.bfinal with hend | hend <;> simp [State.busy, statusOf, h, hend]
  cases hfsm : s.fsm <;> simp only [Follows, hfsm] at h
  case idle | done | error => simp [State.busy, statusOf, hfsm] at hb
  case header => rcases h with ⟨h, -⟩ | ⟨h, -⟩ | ⟨h, -⟩ <;> simp [State.busy, statusOf, h]
  case stored => exact hafter h
  case dynLengths => split_ifs at h <;> simp [State.busy, statusOf, h]
  case symbol =>
    rcases h with h | h
    · simp [State.busy, statusOf, h]
    · exact hafter h
  case fixed | dynHeader | dynBuild => simp [State.busy, statusOf, h]

/-- A state of a run reads an element or sets up tables. -/
theorem readsNext_or_isSetup_of_busy (hb : s.busy = true) :
    (∃ ctx, ReadsNext s ctx) ∨ (s.fsm = .fixed ∨ s.fsm = .dynBuild) := by
  by_cases hset : s.fsm = .fixed ∨ s.fsm = .dynBuild
  · exact .inr hset
  · refine .inl (exists_readsNext ?_)
    cases hfsm : s.fsm <;> simp [State.busy, statusOf, hfsm] at hb hset ⊢

/-- 42 R210: a step of a run ends it or leaves less to do. -/
theorem StepTo.ends_or_workLeft_lt (h : StepTo s t) (hs : RunInv s) (hb : s.busy = true) :
    (t.fsm = .done ∨ t.fsm = .error) ∨ (t.busy = true ∧ workLeft t < workLeft s) := by
  by_cases ht : t.fsm = .error
  · exact .inl (.inr ht)
  · have hfollows := h.follows ht
    refine (hfollows.busy_or_done hb).symm.imp .inl fun hbusy => ⟨hbusy, ?_⟩
    have hlen := h.appended.inLen
    have hend := (h.runInv hs).cursor.bitIndex_le
    have hone := Bool.toNat_le t.fsm.isSetup
    rcases readsNext_or_isSetup_of_busy hb with ⟨ctx, hctx⟩ | hset
    · have hlt := h.bitIndex_lt hs hctx ht
      rw [workLeft, workLeft, hlen]
      omega
    · have hle := h.bitIndex_le hs
      have htfsm : t.fsm = .symbol := by rcases hset with hfsm | hfsm <;> simpa only [Follows, hfsm] using hfollows
      have hbefore : s.fsm.isSetup = true := by rcases hset with hfsm | hfsm <;> rw [hfsm] <;> rfl
      have hafter : t.fsm.isSetup = false := by rw [htfsm]; rfl
      rw [workLeft, workLeft, hlen, hbefore, hafter, Bool.toNat_true, Bool.toNat_false]
      omega

/-- A run with little enough left to do has ended after `n` steps. -/
theorem RunInv.exists_stepN {n : Nat} (hs : RunInv s)
    (h : (s.fsm = .done ∨ s.fsm = .error) ∨ (s.busy = true ∧ workLeft s < n)) :
    ∃ t, stepN n s = .next t ∧ (t.fsm = .done ∨ t.fsm = .error) := by
  induction n generalizing s with
  | zero =>
    obtain hend | ⟨-, hlt⟩ := h
    · exact ⟨s, rfl, hend⟩
    · exact absurd hlt (Nat.not_lt_zero _)
  | succ n ih =>
    have hgo : ∀ {t : State}, StepTo s t → stepN (n + 1) s = stepN n t := fun ht => by
      rw [stepN, ht.step_eq, andThen_next]
    obtain hend | ⟨hb, hlt⟩ := h
    · rw [hgo (.rest (.inr hend))]
      exact ih hs (.inl hend)
    · obtain ⟨t, ht⟩ := hs.tables.exists_stepTo
      rw [hgo ht]
      exact ih (ht.runInv hs) ((ht.ends_or_workLeft_lt hs hb).imp_right fun ⟨hb', hlt'⟩ => ⟨hb', by omega⟩)

theorem runInv_start (hm : MemoryInv s) : RunInv s.start :=
  ⟨cursorInv_of_zero rfl, Nat.zero_le _, hm, errInv_of_none rfl nofun, tablesInv_of_fsm nofun nofun nofun⟩

/-- Settles O51: at the start `16 * IN_LEN` is left to do, and each step that does not end the run leaves less. -/
theorem everyRunEnds : Obligations.EveryRunEnds := by
  intro s hm
  have hwork : workLeft s.start = 2 * (8 * s.inLen.toNat) := by
    simp [workLeft, State.start, Cursor.zero, Cursor.bitIndex, Fsm.isSetup]
  exact (runInv_start hm).exists_stepN (.inr ⟨rfl, by omega⟩)

end Sys2Proof.Machine
end

section
/-! PROOFS. Memories that agree on a part (10_state R20, R21): what is read from that part, and what is appended to it. -/

namespace Sys2Proof.Machine

variable {m m' : Memory} {n p b d : Nat}

theorem SameBelow.symm (h : SameBelow b m m') : SameBelow b m' m := fun a ha => (h a ha).symm

/-- Bytes are read alike below the bound. -/
theorem SameBelow.readBytes_eq {a : Nat} (h : SameBelow b m m') (hn : n ≤ b - a) :
    Memory.readBytes m a n = Memory.readBytes m' a n := by
  induction n generalizing a with
  | zero => rfl
  | succ n ih => rw [Memory.readBytes, Memory.readBytes, h a (by omega), ih (by omega)]

/-- Ways for two output memories to agree up to a place that reading below it does not see and appending at it keeps. -/
structure Growing (Q : Nat → Memory → Memory → Prop) : Prop where
  read : ∀ {p a m m'}, Q p m m' → a < p → Memory.read m a = Memory.read m' a
  write : ∀ {p m m'} (v : Byte), Q p m m' → Q (p + 1) (Memory.write m p v) (Memory.write m' p v)

theorem growing_eq : Growing fun _ m m' => m = m' where
  read h _ := by rw [h]
  write _ h := by rw [h]

theorem growing_sameBelow : Growing SameBelow where
  read h ha := h _ ha
  write v h a ha := by
    rw [Memory.read_write, Memory.read_write]
    split_ifs
    · rfl
    · exact h a (by omega)

variable {Q : Nat → Memory → Memory → Prop}

theorem Growing.writeBytes (hQ : Growing Q) (bs : List Byte) (h : Q p m m') :
    Q (p + bs.length) (Memory.writeBytes m p bs) (Memory.writeBytes m' p bs) := by
  induction bs generalizing m m' p with
  | nil => exact h
  | cons b bs ih =>
    rw [List.length_cons, show p + (bs.length + 1) = p + 1 + bs.length by omega]
    exact ih (hQ.write b h)

theorem Growing.matchMemory (hQ : Growing Q) (hd : 1 ≤ d) (hdp : d ≤ p) (h : Q p m m') :
    Q (p + n) (matchMemory d n m p) (matchMemory d n m' p) := by
  induction n generalizing m m' p with
  | zero => exact h
  | succ n ih =>
    rw [show p + (n + 1) = p + 1 + n by omega, Machine.matchMemory, Machine.matchMemory, hQ.read h (a := p - d) (by omega)]
    exact ih (by omega) (hQ.write _ h)

end Sys2Proof.Machine
end

section
/-! PROOFS. Two runs that differ in bytes the engine does not read (10_state R20, R21): they go in step. -/

namespace Sys2Proof.Machine

variable {Q : Nat → Memory → Memory → Prop} {mi : Memory} {ctx : Ctx} {h : Head} {i : Instr} {e : ErrKind} {s t u : State}

/-- `u` is `s` with another input, the same below `IN_LEN`, and another output memory that agrees up to `out_pos`. -/
def Twin (Q : Nat → Memory → Memory → Prop) (mi : Memory) (s u : State) : Prop :=
  ∃ mo, u = { s with imem := mi, omem := mo } ∧ SameBelow s.inLen.toNat s.imem mi ∧ Q s.outPos.toNat s.omem mo

theorem cursor_next_of_sameBelow {aw : Nat} {c : Cursor aw} {l : Addr aw} {m m' : Memory} (h : SameBelow l.toNat m m') :
    c.next m l = c.next m' l := by
  rw [Cursor.next, Cursor.next]
  split_ifs with h0 hend
  · rfl
  · rw [h _ (by omega)]
  · rfl

theorem simulates_twin (Q : Nat → Memory → Memory → Prop) (mi : Memory) :
    Simulates stateSource stateSource (fun _ => True) (Twin Q mi) where
  next s u h := by
    obtain ⟨mo, rfl, hi, hq⟩ := h
    have hsame : s.cur.next mi s.inLen = s.cur.next s.imem s.inLen := (cursor_next_of_sameBelow hi).symm
    cases hnext : s.cur.next s.imem s.inLen with
    | none => exact .inl ⟨by simp [stateSource, hnext], by simp [stateSource, hsame, hnext]⟩
    | some r =>
      exact .inr ⟨r.1, _, _, stateSource_next_of_cursor hnext,
        stateSource_next_of_cursor (s := { s with imem := mi, omem := mo }) (hsame.trans hnext), mo, rfl, hi, hq⟩
  align s u h := by
    obtain ⟨mo, rfl, hi, hq⟩ := h
    exact ⟨mo, rfl, hi, hq⟩
  latch l _ s u h := by
    obtain ⟨mo, rfl, hi, hq⟩ := h
    cases l <;> exact ⟨mo, rfl, hi, hq⟩

/-- Twins read the same element, or fail alike. -/
theorem Twin.fetch (hT : Twin Q mi s u) (ctx : Ctx) : Rd.Alike (Twin Q mi) (fetch ctx s) (fetch ctx u) :=
  (simulates_twin Q mi).decodeElement ctx (fun _ _ => trivial) hT

theorem Twin.fetch_ok {w : State} (hT : Twin Q mi s u) (hok : Machine.fetch ctx s = .ok i w) :
    ∃ w', Machine.fetch ctx u = .ok i w' ∧ Twin Q mi w w' := by
  have h := hT.fetch ctx
  rw [hok] at h
  generalize Machine.fetch ctx u = r at h
  cases h with
  | ok h => exact ⟨_, rfl, h⟩

theorem Twin.fetch_err {w : State} (hT : Twin Q mi s u) (herr : Machine.fetch ctx s = .err e w) :
    ∃ w', Machine.fetch ctx u = .err e w' ∧ Twin Q mi w w' := by
  have h := hT.fetch ctx
  rw [herr] at h
  generalize Machine.fetch ctx u = r at h
  cases h with
  | err h => exact ⟨_, rfl, h⟩

theorem Twin.raise (hT : Twin Q mi s u) (e : ErrKind) : Twin Q mi (s.raise e) (u.raise e) := by
  obtain ⟨mo, rfl, hi, hq⟩ := hT
  exact ⟨mo, rfl, hi, hq⟩

theorem Twin.readsNext (hT : Twin Q mi s u) (hctx : ReadsNext s ctx) : ReadsNext u ctx := by
  obtain ⟨mo, rfl, -⟩ := hT
  cases hctx with
  | header hfsm => exact .header hfsm
  | stored hfsm => exact .stored hfsm
  | dynHeader hfsm => exact .dynHeader hfsm
  | dynLengths hfsm => exact .dynLengths (s := { s with imem := mi, omem := mo }) hfsm
  | symbol hfsm => exact .symbol (s := { s with imem := mi, omem := mo }) hfsm

/-- An element has the same effect on both, and its output is appended to both. -/
theorem Twin.effect (hQ : Growing Q) (hT : Twin Q mi s u) (he : Effect h s t) : ∃ v, Effect h u v ∧ Twin Q mi t v := by
  obtain ⟨mo, rfl, hi, hq⟩ := hT
  cases he with
  | header ht => exact ⟨_, .header ht, mo, rfl, hi, hq⟩
  | reserved => exact ⟨_, .reserved, mo, rfl, hi, hq⟩
  | storedMismatch hn => exact ⟨_, .storedMismatch hn, mo, rfl, hi, hq⟩
  | storedEnd hn hin => exact ⟨_, .storedEnd hn hin, mo, rfl, hi, hq⟩
  | storedFull hn hin ho => exact ⟨_, .storedFull hn hin ho, mo, rfl, hi, hq⟩
  | @storedCopied _ len _ hn hin ho =>
    refine ⟨_, .storedCopied hn hin ho, _, rfl, hi, ?_⟩
    have happ := hQ.writeBytes (Memory.readBytes s.imem s.cur.inPos.toNat len.toNat) hq
    rw [Memory.length_readBytes, ← toNat_add_of_room ho] at happ
    rwa [← hi.readBytes_eq hin]
  | @dynFault _ hlit hdist hclen cll ho =>
    refine ⟨_, .dynFault ho, ?_⟩
    obtain ⟨a, b, c, v, hlatch⟩ := exists_latchDynHeader hlit hdist hclen cll
    rw [hlatch, hlatch]
    exact ⟨mo, rfl, hi, hq⟩
  | @dynBuilt _ hlit hdist hclen cll _ hb =>
    refine ⟨_, .dynBuilt hb, ?_⟩
    obtain ⟨a, b, c, v, hlatch⟩ := exists_latchDynHeader hlit hdist hclen cll
    rw [hlatch, hlatch]
    exact ⟨mo, rfl, hi, hq⟩
  | runFault hf => exact ⟨_, .runFault hf, mo, rfl, hi, hq⟩
  | runStored h16 hfit hcap => exact ⟨_, .runStored h16 hfit hcap, mo, rfl, hi, hq⟩
  | literalFull hy ho => exact ⟨_, .literalFull hy ho, mo, rfl, hi, hq⟩
  | @literal _ y _ hy ho =>
    refine ⟨_, .literal hy ho, _, rfl, hi, ?_⟩
    have happ := hQ.write (BitVec.ofNat 8 y) hq
    rwa [← addr_add_one ho] at happ
  | endOfBlock => exact ⟨_, .endOfBlock, mo, rfl, hi, hq⟩
  | length hlo hhi => exact ⟨_, .length hlo hhi, mo, rfl, hi, hq⟩
  | reservedLl hy => exact ⟨_, .reservedLl hy, mo, rfl, hi, hq⟩
  | matchTooFar hd hb => exact ⟨_, .matchTooFar hd hb, mo, rfl, hi, hq⟩
  | matchFull hd hb ho => exact ⟨_, .matchFull hd hb ho, mo, rfl, hi, hq⟩
  | @matchCopied _ d x hd hb ho =>
    refine ⟨_, .matchCopied hd hb ho, _, rfl, hi, ?_⟩
    have happ := hQ.matchMemory (n := s.matchLen.toNat) (matchDistance_pos x hd) hb hq
    rwa [← toNat_add_of_room ho] at happ
  | reservedDist hd => exact ⟨_, .reservedDist hd, mo, rfl, hi, hq⟩

/-- Twins stay twins from step to step. -/
theorem Twin.stepTo (hQ : Growing Q) (hT : Twin Q mi s u) (h : StepTo s t) : ∃ v, StepTo u v ∧ Twin Q mi t v := by
  induction h generalizing u with
  | rest hfsm =>
    refine ⟨u, .rest ?_, hT⟩
    obtain ⟨mo, rfl, -⟩ := hT
    exact hfsm
  | fault hctx herr =>
    obtain ⟨w, herr', hw⟩ := hT.fetch_err herr
    exact ⟨_, .fault (hT.readsNext hctx) herr', hw.raise _⟩
  | element hctx hok he hlen =>
    obtain ⟨w, hok', hw⟩ := hT.fetch_ok hok
    obtain ⟨v, he', hv⟩ := hw.effect hQ he
    exact ⟨v, .element (hT.readsNext hctx) hok' he' hlen, hv⟩
  | @length s r t i y x hfsm h0 hok hi hlo hhi _ ih =>
    obtain ⟨w, hok', hw⟩ := hT.fetch_ok hok
    have hheld : Twin Q mi { r with matchLen := BitVec.ofNat 9 (matchLength y x) }
        { w with matchLen := BitVec.ofNat 9 (matchLength y x) } := by
      obtain ⟨mo, rfl, hin, hq⟩ := hw
      exact ⟨mo, rfl, hin, hq⟩
    obtain ⟨v, hv, hTv⟩ := ih hheld
    refine ⟨v, ?_, hTv⟩
    obtain ⟨mo, rfl, -⟩ := hT
    exact .length hfsm h0 hok' hi hlo hhi hv
  | fixed hfsm ha hb =>
    obtain ⟨mo, rfl, hi, hq⟩ := hT
    exact ⟨_, .fixed hfsm ha hb, mo, rfl, hi, hq⟩
  | buildLlFault hfsm ho =>
    obtain ⟨mo, rfl, hi, hq⟩ := hT
    exact ⟨_, .buildLlFault hfsm ho, mo, rfl, hi, hq⟩
  | buildDFault hfsm ha ho =>
    obtain ⟨mo, rfl, hi, hq⟩ := hT
    exact ⟨_, .buildDFault hfsm ha ho, mo, rfl, hi, hq⟩
  | built hfsm ha hb =>
    obtain ⟨mo, rfl, hi, hq⟩ := hT
    exact ⟨_, .built hfsm ha hb, mo, rfl, hi, hq⟩

/-- Settles O52: a step and its twin have the same next state, the input aside; and each has one where the other has. -/
theorem inputBeyondInLenIsNotRead : Obligations.InputBeyondInLenIsNotRead := by
  intro s m hm
  have hT : Twin (fun _ m m' => m = m') m s { s with imem := m } := ⟨s.omem, rfl, hm, rfl⟩
  have hT' : Twin (fun _ m m' => m = m') s.imem { s with imem := m } s := ⟨s.omem, rfl, hm.symm, rfl⟩
  rcases exists_stepTo_or_fault s with ⟨t, ht⟩ | hfault
  · obtain ⟨_, hv, _, rfl, -, rfl⟩ := hT.stepTo growing_eq ht
    rw [hv.step_eq, ht.step_eq]
    rfl
  · rcases exists_stepTo_or_fault { s with imem := m } with ⟨v, hv⟩ | hfault'
    · obtain ⟨t, ht, -⟩ := hT'.stepTo growing_eq hv
      cases ht.step_eq.symm.trans hfault
    · rw [hfault', hfault]
      rfl

/-- Settles O53: what is above the new `out_pos` was not written. -/
theorem outputBeyondOutPosIsNotRead : Obligations.OutputBeyondOutPosIsNotRead := by
  intro s t m hm hstep
  have ht := step_eq_next_iff.1 hstep
  have hT : Twin SameBelow s.imem s { s with omem := m } := ⟨m, rfl, fun _ _ => rfl, hm⟩
  obtain ⟨_, hv, m', rfl, -, hq⟩ := hT.stepTo growing_sameBelow ht
  refine ⟨m', ?_, hq, fun a ha => hv.appended.omem a (.inr ha)⟩
  rw [hv.step_eq, ← ht.appended.imem]

end Sys2Proof.Machine
end

section
/-! PROOFS. Two engines in the same run (10_state R46): what they have in common is what the run depends on, whatever their past
and their widths. -/

namespace Sys2Proof.Machine

variable {ctx : Ctx} {h : Head} {i : Instr} {e : ErrKind} {s t u v : State}

/-- What reading elements depends on: the cursor, the input and its length; and `bfinal`, which a header latches. -/
structure SameInput (s u : State) : Prop where
  cur : SameCursor s u
  inLen : u.inLen.toNat = s.inLen.toNat
  imem : SameBelow s.inLen.toNat s.imem u.imem
  bfinal : u.bfinal = s.bfinal

/-- The lengths of a dynamic block that have been read so far. -/
structure SameLengths (s u : State) : Prop where
  clLengths : u.clLengths = s.clLengths
  nLl : u.nLl = s.nLl
  nD : u.nD = s.nD
  idx : u.idx = s.idx
  total : u.total = s.total
  sum : s.total.toNat = s.nLl.toNat + s.nD.toNat
  lens : ∀ j, j < s.idx.toNat → u.lenAt j = s.lenAt j

/-- The tables of two engines are the same where the control state goes on to use them. -/
structure SameTables (s u : State) : Prop where
  lengths : s.fsm = .dynLengths → SameLengths s u
  both : s.fsm = .dynBuild ∨ s.fsm = .symbol → u.llLengths = s.llLengths ∧ u.dLengths = s.dLengths

/-- Two engines in the same run. -/
structure SameRun (s u : State) : Prop extends SameInput s u where
  outCap : u.outCap.toNat = s.outCap.toNat
  outPos : u.outPos.toNat = s.outPos.toNat
  omem : SameBelow s.outPos.toNat s.omem u.omem
  fsm : u.fsm = s.fsm
  err : u.err = s.err
  matchLen : u.matchLen = s.matchLen
  tables : SameTables s u

theorem sameTables_of_fsm (hl : s.fsm ≠ .dynLengths) (hb : s.fsm ≠ .dynBuild) (hs : s.fsm ≠ .symbol) : SameTables s u :=
  ⟨fun h => absurd h hl, fun h => absurd h (not_or.2 ⟨hb, hs⟩)⟩

/-- The next bit is the same at any width, and the cursors move together. -/
theorem next_of_sameCursor {a b : Nat} {c : Cursor a} {d : Cursor b} {l : Addr a} {k : Addr b} {m m' : Memory}
    (hpos : d.inPos.toNat = c.inPos.toNat) (hbuf : d.bitbuf = c.bitbuf) (hcnt : d.bitcnt = c.bitcnt)
    (hlen : k.toNat = l.toNat) (hm : SameBelow l.toNat m m') :
    (c.next m l = none ∧ d.next m' k = none) ∨ ∃ x c' d', c.next m l = some (x, c') ∧ d.next m' k = some (x, d') ∧
      d'.inPos.toNat = c'.inPos.toNat ∧ d'.bitbuf = c'.bitbuf ∧ d'.bitcnt = c'.bitcnt := by
  simp only [Cursor.next, hpos, hbuf, hcnt, hlen]
  by_cases h0 : c.bitcnt = 0
  · rw [if_pos h0, if_pos h0]
    by_cases hend : l.toNat ≤ c.inPos.toNat
    · rw [if_pos hend, if_pos hend]
      exact .inl ⟨rfl, rfl⟩
    · rw [if_neg hend, if_neg hend, hm c.inPos.toNat (by omega)]
      refine .inr ⟨_, _, _, rfl, rfl, ?_, rfl, rfl⟩
      have hc : (c.inPos + 1).toNat = c.inPos.toNat + 1 := addr_add_one (b := l) (by omega)
      have hd : (d.inPos + 1).toNat = d.inPos.toNat + 1 := addr_add_one (b := k) (by omega)
      simp only [hc, hd, hpos]
  · rw [if_neg h0, if_neg h0]
    exact .inr ⟨_, _, _, rfl, rfl, hpos, rfl, rfl⟩

theorem simulates_sameInput : Simulates stateSource stateSource (fun _ => True) SameInput where
  next s u h := by
    obtain ⟨⟨hpos, hbuf, hcnt⟩, hlen, hm, hf⟩ := h
    rcases next_of_sameCursor hpos hbuf hcnt hlen hm with ⟨hs, hu⟩ | ⟨x, c, d, hs, hu, hcur⟩
    · exact .inl ⟨by simp [stateSource, hs], by simp [stateSource, hu]⟩
    · exact .inr ⟨x, _, _, stateSource_next_of_cursor hs, stateSource_next_of_cursor hu, hcur, hlen, hm, hf⟩
  align s u h := by
    obtain ⟨⟨hpos, -, -⟩, hlen, hm, hf⟩ := h
    exact ⟨⟨hpos, rfl, rfl⟩, hlen, hm, hf⟩
  latch l _ s u h := by
    obtain ⟨hcur, hlen, hm, hf⟩ := h
    cases l
    case bfinal v => exact ⟨hcur, hlen, hm, rfl⟩
    all_goals exact ⟨hcur, hlen, hm, hf⟩

theorem SameInput.fetch_ok {w : State} (hS : SameInput s u) (hok : fetch ctx s = .ok i w) :
    ∃ w', fetch ctx u = .ok i w' ∧ SameInput w w' := by
  have h := simulates_sameInput.decodeElement ctx (fun _ _ => trivial) hS
  rw [show decodeElement stateSource ctx s = .ok i w from hok] at h
  rw [fetch]
  generalize decodeElement stateSource ctx u = r at h
  cases h with
  | ok h => exact ⟨_, rfl, h⟩

theorem SameInput.fetch_err {w : State} (hS : SameInput s u) (herr : fetch ctx s = .err e w) :
    ∃ w', fetch ctx u = .err e w' ∧ SameInput w w' := by
  have h := simulates_sameInput.decodeElement ctx (fun _ _ => trivial) hS
  rw [show decodeElement stateSource ctx s = .err e w from herr] at h
  rw [fetch]
  generalize decodeElement stateSource ctx u = r at h
  cases h with
  | err h => exact ⟨_, rfl, h⟩

/-- What reading has not touched is still the same. -/
theorem SameRun.of_fetched {w w' : State} (hS : SameRun s u) (hctx : ReadsNext s ctx) (hw : Fetched ctx s w)
    (hw' : Fetched ctx u w') (hI : SameInput w w') : SameRun w w' := by
  have htables : SameTables w w' := by
    have hfsm := (fsm_of_fetched hw).trans hctx.fsm_eq
    cases ctx with
    | header | stored | dynHeader => exact sameTables_of_fsm (hfsm ▸ nofun) (hfsm ▸ nofun) (hfsm ▸ nofun)
    | codeLen | litLen | distance =>
      obtain ⟨c, rfl⟩ := hw.eq_with_cur nofun nofun
      obtain ⟨d, rfl⟩ := hw'.eq_with_cur nofun nofun
      exact ⟨fun hl => { hS.tables.lengths hl with }, hS.tables.both⟩
  obtain ⟨_, _, _, _, _, _, rfl, -⟩ := hw
  obtain ⟨_, _, _, _, _, _, rfl, -⟩ := hw'
  exact ⟨hI, hS.outCap, hS.outPos, hS.omem, hS.fsm, hS.err, hS.matchLen, htables⟩

theorem SameRun.readsNext (hS : SameRun s u) (hctx : ReadsNext s ctx) : ReadsNext u ctx := by
  cases hctx with
  | header h => exact .header (hS.fsm.trans h)
  | stored h => exact .stored (hS.fsm.trans h)
  | dynHeader h => exact .dynHeader (hS.fsm.trans h)
  | dynLengths h =>
    have hl := hS.tables.lengths h
    rw [codeLenCtx, ← hl.clLengths, ← hl.idx]
    exact .dynLengths (hS.fsm.trans h)
  | symbol h =>
    obtain ⟨hll, hd⟩ := hS.tables.both (.inr h)
    rw [symbolCtx, ← hS.matchLen, ← hll, ← hd]
    exact .symbol (hS.fsm.trans h)

theorem SameRun.fetch_ok {w : State} (hS : SameRun s u) (hctx : ReadsNext s ctx) (hok : fetch ctx s = .ok i w) :
    ∃ w', fetch ctx u = .ok i w' ∧ SameRun w w' := by
  obtain ⟨w', hok', hI⟩ := hS.toSameInput.fetch_ok hok
  exact ⟨w', hok', hS.of_fetched hctx (fetched_of_fetch_eq_ok hok) (fetched_of_fetch_eq_ok hok') hI⟩

theorem SameRun.fetch_err {w : State} (hS : SameRun s u) (hctx : ReadsNext s ctx) (herr : fetch ctx s = .err e w) :
    ∃ w', fetch ctx u = .err e w' ∧ SameRun w w' := by
  obtain ⟨w', herr', hI⟩ := hS.toSameInput.fetch_err herr
  exact ⟨w', herr', hS.of_fetched hctx (fetched_of_fetch_eq_err herr) (fetched_of_fetch_eq_err herr') hI⟩

theorem SameRun.raise (hS : SameRun s u) (e : ErrKind) : SameRun (s.raise e) (u.raise e) :=
  { hS with fsm := rfl, err := rfl, matchLen := rfl, tables := sameTables_of_fsm nofun nofun nofun }

/-- Entries below `k` that are the same are the same list. -/
theorem take_lens_eq {k : Nat} (h : ∀ j, j < k → u.lenAt j = s.lenAt j) : u.lens.toList.take k = s.lens.toList.take k := by
  refine List.ext_getElem (by simp) fun j hj hj' => ?_
  have hcap : j < Config.CAP_LENS := by simp at hj; omega
  have hk : j < k := by simp at hj; omega
  have hlen := h j hk
  rw [lenAt_of_lt _ hcap, lenAt_of_lt _ hcap] at hlen
  simpa using hlen

/-- When every length has been read, the two tables are the same. -/
theorem SameLengths.both (h : SameLengths s u) (hend : s.idx = s.total) :
    u.llLengths = s.llLengths ∧ u.dLengths = s.dLengths := by
  have htake : u.lens.toList.take (s.nLl.toNat + s.nD.toNat) = s.lens.toList.take (s.nLl.toNat + s.nD.toNat) :=
    take_lens_eq fun j hj => h.lens j (by rw [hend, h.sum]; exact hj)
  have hll : ∀ l : List (BitVec 4), l.take s.nLl.toNat = (l.take (s.nLl.toNat + s.nD.toNat)).take s.nLl.toNat := fun l => by
    rw [List.take_take, Nat.min_eq_left (Nat.le_add_right _ _)]
  have hd : ∀ l : List (BitVec 4), (l.drop s.nLl.toNat).take s.nD.toNat =
      (l.take (s.nLl.toNat + s.nD.toNat)).drop s.nLl.toNat := fun l => by
    rw [List.drop_take, Nat.add_sub_cancel_left]
  rw [State.llLengths, State.llLengths, State.dLengths, State.dLengths, h.nLl, h.nD, hll, hll s.lens.toList, hd,
    hd s.lens.toList, htake]
  exact ⟨rfl, rfl⟩

/-- Places that are the same stay so when they move by as much as there is room for. -/
theorem toNat_add_eq_of_room {aw aw' n : Nat} {a b : Addr aw} {a' b' : Addr aw'} (hroom : n ≤ b.toNat - a.toNat)
    (ha : a'.toNat = a.toNat) (hb : b'.toNat = b.toNat) :
    (a' + BitVec.ofNat aw' n).toNat = (a + BitVec.ofNat aw n).toNat := by
  rw [toNat_add_of_room hroom, toNat_add_of_room (b := b') (by omega), ha]

/-- 43 R221: the same symbol stores the same run. -/
theorem SameLengths.runValue {c : Nat} (h : SameLengths s u) (h16 : c = 16 → s.idx ≠ 0) : u.runValue c = s.runValue c := by
  rw [State.runValue, State.runValue]
  split_ifs with hc hc'
  · rfl
  · have hne : s.idx.toNat ≠ 0 := fun h0 => h16 hc' (BitVec.eq_of_toNat_eq h0)
    rw [h.idx, h.lens _ (by omega)]
  · rfl

/-- What `lens` holds after a run has been stored. -/
theorem lenAt_fillVector (s : State) (n i : Nat) (v : BitVec 4) {j : Nat} (hj : j < Config.CAP_LENS) :
    State.lenAt { s with lens := fillVector n i v s.lens } j = if i ≤ j ∧ j < i + n then v else s.lenAt j := by
  rw [lenAt_of_lt _ hj, lenAt_of_lt _ hj]
  exact getElem_fillVector n i v s.lens j hj

/-- The state in which a run of code lengths has been stored, the control state aside. -/
def State.storeRun (s : State) (n : Nat) (v : BitVec 4) : State :=
  { s with lens := fillVector n s.idx.toNat v s.lens, idx := s.idx + BitVec.ofNat 9 n }

theorem SameLengths.storeRun {n : Nat} (h : SameLengths s u) (hcap : s.idx.toNat + n ≤ Config.CAP_LENS) (x : BitVec 4) :
    SameLengths (s.storeRun n x) (u.storeRun n x) := by
  have hcap' : s.idx.toNat + n ≤ 320 := hcap
  have hadd : (s.idx + BitVec.ofNat 9 n).toNat = s.idx.toNat + n := by
    rw [BitVec.toNat_add, BitVec.toNat_ofNat]
    omega
  refine ⟨h.clLengths, h.nLl, h.nD, ?_, h.total, h.sum, fun j hj => ?_⟩
  · show u.idx + _ = s.idx + _
    rw [h.idx]
  · replace hj : j < (s.idx + BitVec.ofNat 9 n).toNat := hj
    rw [hadd] at hj
    show State.lenAt { u with lens := fillVector n u.idx.toNat x u.lens } j =
      State.lenAt { s with lens := fillVector n s.idx.toNat x s.lens } j
    rw [lenAt_fillVector u _ _ _ (by omega), lenAt_fillVector s _ _ _ (by omega), h.idx]
    split_ifs with hin
    · rfl
    · exact h.lens j (by omega)

/-- Both tables are still to be read, or both have been. -/
theorem SameRun.storeRun {n : Nat} (hS : SameRun s u) (hfsm : s.fsm = .dynLengths) (hcap : s.idx.toNat + n ≤ Config.CAP_LENS)
    (x : BitVec 4) : SameRun
      { s.storeRun n x with fsm := if s.idx + BitVec.ofNat 9 n = s.total then .dynBuild else .dynLengths }
      { u.storeRun n x with fsm := if u.idx + BitVec.ofNat 9 n = u.total then .dynBuild else .dynLengths } := by
  have hl := hS.tables.lengths hfsm
  have hl' := hl.storeRun hcap x
  rw [hl.idx, hl.total]
  refine { hS with fsm := rfl, tables := ⟨fun _ => { hl' with }, fun hb => ?_⟩ }
  by_cases hend : s.idx + BitVec.ofNat 9 n = s.total
  · exact hl'.both hend
  · simp [hend] at hb

/-- A dynamic header sets up the same lengths, none of them read yet. -/
theorem sameLengths_latchDynHeader (s u : State) (hlit hdist : BitVec 5) (hclen : BitVec 4) (cll : List (BitVec 3))
    (trie : Trie) (f : Fsm) :
    SameLengths
      { latchDynHeader hlit hdist hclen cll s with
        clTrie := trie, idx := 0, total := BitVec.ofNat 9 ((litLenCount hlit).toNat + (distCount hdist).toNat), fsm := f }
      { latchDynHeader hlit hdist hclen cll u with
        clTrie := trie, idx := 0, total := BitVec.ofNat 9 ((litLenCount hlit).toNat + (distCount hdist).toNat), fsm := f } := by
  have hlit' := toNat_litLenCount hlit
  have hdist' := toNat_distCount hdist
  refine ⟨rfl, rfl, rfl, rfl, rfl, ?_, fun j hj => absurd hj (Nat.not_lt_zero j)⟩
  show (BitVec.ofNat 9 ((litLenCount hlit).toNat + (distCount hdist).toNat)).toNat =
    (litLenCount hlit).toNat + (distCount hdist).toNat
  rw [BitVec.toNat_ofNat]
  omega

/-- The same element has the same effect. -/
theorem SameRun.effect (hS : SameRun s u) (hfsm : s.fsm = h.fsm) (he : Effect h s t) : ∃ v, Effect h u v ∧ SameRun t v := by
  obtain ⟨hpos, hbuf, hcnt⟩ := hS.cur
  have hsame : s.fsm = .symbol → u.llLengths = s.llLengths ∧ u.dLengths = s.dLengths := fun h => hS.tables.both (.inr h)
  cases he with
  | @header _ ty f ht =>
    refine ⟨_, .header ht, { hS with bfinal := rfl, fsm := rfl, tables := ?_ }⟩
    rcases headerNext_cases ty with h | h | h <;> rw [h] <;> exact sameTables_of_fsm nofun nofun nofun
  | reserved =>
    exact ⟨_, .reserved, { hS with
      bfinal := rfl, fsm := rfl, err := rfl, matchLen := rfl, tables := sameTables_of_fsm nofun nofun nofun }⟩
  | storedMismatch hn => exact ⟨_, .storedMismatch hn, hS.raise _⟩
  | storedEnd hn hi => exact ⟨_, .storedEnd hn (by rwa [hS.inLen, hpos]), hS.raise _⟩
  | storedFull hn hi ho =>
    exact ⟨_, .storedFull hn (by rwa [hS.inLen, hpos]) (by rwa [hS.outCap, hS.outPos]), hS.raise _⟩
  | @storedCopied _ len _ hn hi ho =>
    have happ := growing_sameBelow.writeBytes (Memory.readBytes s.imem s.cur.inPos.toNat len.toNat) hS.omem
    rw [Memory.length_readBytes, ← toNat_add_of_room ho] at happ
    refine ⟨_, .storedCopied hn (by rwa [hS.inLen, hpos]) (by rwa [hS.outCap, hS.outPos]), { hS with
      cur := ⟨toNat_add_eq_of_room hi hpos hS.inLen, hbuf, hcnt⟩
      outPos := toNat_add_eq_of_room ho hS.outPos hS.outCap
      omem := ?_
      fsm := congrArg afterBlock hS.bfinal
      tables := ?_ }⟩
    · rw [hpos, hS.outPos, ← hS.imem.readBytes_eq hi]
      exact happ
    · rcases afterBlock_cases s.bfinal with h | h <;> rw [h] <;> exact sameTables_of_fsm nofun nofun nofun
  | @dynFault _ hlit hdist hclen cll ho =>
    refine ⟨_, .dynFault ho, ?_⟩
    obtain ⟨a, b, c, v, hlatch⟩ := exists_latchDynHeader hlit hdist hclen cll
    rw [hlatch, hlatch]
    exact { hS with fsm := rfl, err := rfl, matchLen := rfl, tables := sameTables_of_fsm nofun nofun nofun }
  | @dynBuilt _ hlit hdist hclen cll trie hb =>
    refine ⟨_, .dynBuilt hb, ?_⟩
    have hlengths := sameLengths_latchDynHeader s u hlit hdist hclen cll trie .dynLengths
    obtain ⟨a, b, c, v, hlatch⟩ := exists_latchDynHeader hlit hdist hclen cll
    rw [hlatch, hlatch] at hlengths ⊢
    exact { hS with fsm := rfl, tables := ⟨fun _ => hlengths, nofun⟩ }
  | runFault hf =>
    have hl := hS.tables.lengths hfsm
    exact ⟨_, .runFault (by rwa [hl.idx, hl.total]), hS.raise _⟩
  | @runStored _ c e h16 hfit hcap =>
    have hl := hS.tables.lengths hfsm
    refine ⟨_, .runStored (by rwa [hl.idx]) (by rwa [hl.idx, hl.total]) (by rwa [hl.idx]), ?_⟩
    rw [hl.runValue h16]
    exact hS.storeRun hfsm hcap (s.runValue c)
  | literalFull hy ho => exact ⟨_, .literalFull hy (by rwa [hS.outCap, hS.outPos]), hS.raise _⟩
  | @literal _ y _ hy ho =>
    have happ := growing_sameBelow.write (BitVec.ofNat 8 y) hS.omem
    rw [← addr_add_one ho] at happ
    refine ⟨_, .literal hy (by rwa [hS.outCap, hS.outPos]), { hS with
      outPos := toNat_add_eq_of_room (n := 1) (by omega) hS.outPos hS.outCap
      omem := ?_
      fsm := rfl
      tables := ⟨nofun, fun _ => hsame hfsm⟩ }⟩
    rw [hS.outPos]
    exact happ
  | endOfBlock =>
    refine ⟨_, .endOfBlock, { hS with fsm := congrArg afterBlock hS.bfinal, tables := ?_ }⟩
    rcases afterBlock_cases s.bfinal with h | h <;> rw [h] <;> exact sameTables_of_fsm nofun nofun nofun
  | length hlo hhi =>
    exact ⟨_, .length hlo hhi, { hS with matchLen := rfl, tables := ⟨fun h => absurd (hfsm.symm.trans h) nofun, hS.tables.both⟩ }⟩
  | reservedLl hy => exact ⟨_, .reservedLl hy, hS.raise _⟩
  | matchTooFar hd hb => exact ⟨_, .matchTooFar hd (by rwa [hS.outPos]), hS.raise _⟩
  | matchFull hd hb ho =>
    exact ⟨_, .matchFull hd (by rwa [hS.outPos]) (by rwa [hS.outCap, hS.outPos, hS.matchLen]), hS.raise _⟩
  | @matchCopied _ d x hd hb ho =>
    have happ := growing_sameBelow.matchMemory (n := s.matchLen.toNat) (matchDistance_pos x hd) hb hS.omem
    rw [← toNat_add_of_room ho] at happ
    refine ⟨_, .matchCopied hd (by rwa [hS.outPos]) (by rwa [hS.outCap, hS.outPos, hS.matchLen]), { hS with
      outPos := ?_
      omem := ?_
      fsm := rfl
      matchLen := rfl
      tables := ⟨nofun, fun _ => hsame hfsm⟩ }⟩
    · rw [hS.matchLen]
      exact toNat_add_eq_of_room ho hS.outPos hS.outCap
    · rw [hS.matchLen, hS.outPos]
      exact happ
  | reservedDist hd => exact ⟨_, .reservedDist hd, hS.raise _⟩

/-- 10 R46: the same run stays the same from step to step. -/
theorem SameRun.stepTo (hS : SameRun s u) (hst : StepTo s t) : ∃ v, StepTo u v ∧ SameRun t v := by
  induction hst generalizing u with
  | rest hfsm => exact ⟨u, .rest (by rwa [hS.fsm]), hS⟩
  | fault hctx herr =>
    obtain ⟨w, herr', hw⟩ := hS.fetch_err hctx herr
    exact ⟨_, .fault (hS.readsNext hctx) herr', hw.raise _⟩
  | element hctx hok he hlen =>
    obtain ⟨w, hok', hw⟩ := hS.fetch_ok hctx hok
    obtain ⟨v, he', hv⟩ := hw.effect (fsm_eq_of_fetch_eq_ok hctx hok) he
    exact ⟨v, .element (hS.readsNext hctx) hok' he' hlen, hv⟩
  | @length s r t i y x hfsm h0 hok hi hlo hhi _ ih =>
    have hctx := readsNext_of_length hfsm h0
    obtain ⟨w, hok', hw⟩ := hS.fetch_ok hctx hok
    have hrfsm := (fsm_of_fetched (fetched_of_fetch_eq_ok hok)).trans hfsm
    obtain ⟨v, hv, hSv⟩ := ih (u := { w with matchLen := BitVec.ofNat 9 (matchLength y x) }) { hw with
      matchLen := rfl, tables := ⟨fun h => absurd (hrfsm.symm.trans h) nofun, hw.tables.both⟩ }
    obtain ⟨hll, -⟩ := hS.tables.both (.inr hfsm)
    exact ⟨v, .length (hS.fsm.trans hfsm) (hS.matchLen.trans h0) (by rwa [hll]) hi hlo hhi hv, hSv⟩
  | @fixed s a b hfsm ha hb =>
    refine ⟨_, .fixed (hS.fsm.trans hfsm) ha hb, { hS with fsm := rfl, tables := ⟨nofun, fun _ => ⟨?_, ?_⟩⟩ }⟩
    · exact (llLengths_fixed u).trans (llLengths_fixed s).symm
    · exact (dLengths_fixed u).trans (dLengths_fixed s).symm
  | buildLlFault hfsm ho =>
    obtain ⟨hll, -⟩ := hS.tables.both (.inl hfsm)
    exact ⟨_, .buildLlFault (hS.fsm.trans hfsm) (by rwa [hll]), hS.raise _⟩
  | buildDFault hfsm ha ho =>
    obtain ⟨hll, hd⟩ := hS.tables.both (.inl hfsm)
    exact ⟨_, .buildDFault (hS.fsm.trans hfsm) (hll ▸ ha) (hd ▸ ho), { hS with
      fsm := rfl, err := rfl, matchLen := rfl, tables := sameTables_of_fsm nofun nofun nofun }⟩
  | built hfsm ha hb =>
    have hsame := hS.tables.both (.inl hfsm)
    exact ⟨_, .built (hS.fsm.trans hfsm) (hsame.1 ▸ ha) (hsame.2 ▸ hb), { hS with
      fsm := rfl, tables := ⟨nofun, fun _ => hsame⟩ }⟩

/-- Two engines in the same run are so after every number of steps, and each has appended its output to its own OMEM. -/
theorem SameRun.stepN {n : Nat} (hS : SameRun s u) (hrun : Machine.stepN n s = .next t) :
    ∃ v, Machine.stepN n u = .next v ∧ SameRun t v ∧ Appended u v := by
  induction n generalizing s u with
  | zero =>
    cases hrun
    exact ⟨u, rfl, hS, .refl u⟩
  | succ n ih =>
    rw [Machine.stepN] at hrun
    cases hstep : step s with
    | next r =>
      rw [hstep, andThen_next] at hrun
      obtain ⟨w, hw, hSw⟩ := hS.stepTo (step_eq_next_iff.1 hstep)
      obtain ⟨v, hv, hSv, happ⟩ := ih hSw hrun
      exact ⟨v, by rw [Machine.stepN, hw.step_eq, andThen_next, hv], hSv, hw.appended.trans happ⟩
    | fault | refused => rw [hstep] at hrun; cases hrun

theorem sameRun_start (hlen : u.inLen.toNat = s.inLen.toNat) (hcap : u.outCap.toNat = s.outCap.toNat)
    (hm : SameBelow s.inLen.toNat s.imem u.imem) : SameRun s.start u.start where
  cur := ⟨rfl, rfl, rfl⟩
  inLen := hlen
  imem := hm
  bfinal := rfl
  outCap := hcap
  outPos := rfl
  omem a ha := absurd ha (Nat.not_lt_zero a)
  fsm := rfl
  err := rfl
  matchLen := rfl
  tables := sameTables_of_fsm nofun nofun nofun

/-- Settles O54: what a run depends on is the same at START and stays the same from step to step. -/
theorem runsAreIndependentOfThePast : Obligations.RunsAreIndependentOfThePast := by
  intro s u t n hlen hcap hm hrun
  obtain ⟨v, hv, hS, happ⟩ := (sameRun_start hlen hcap hm).stepN hrun
  exact ⟨v, hv, hS.fsm, hS.err, hS.cur, hS.outPos, hS.omem, fun a ha => happ.omem a (.inr (hS.outPos.symm ▸ ha))⟩

end Sys2Proof.Machine
end
